-- ==== Sys2Proof/Word.lean ====
section
/-!
DEFINITION. The widths of VWCODEC: a byte, the 16-bit word of the checksum and of a two-byte field
(spec/00_scope.md R15), and the 36-bit command word (spec/30_encoding.md R70).
-/

namespace Sys2Proof

/-- A byte, an unsigned value 0 to 255 (R15). -/
abbrev Byte := BitVec 8

/-- A 16-bit value: the accumulator, a command, a two-byte field (R8, R10, R53). -/
abbrev Word := BitVec 16

/-- The command word `CW` by which the host asks for one operation (R70). -/
abbrev CommandWord := BitVec 36

end Sys2Proof
end

