-- ==== Sys2Proof/Config.lean ====
section
/-!
DEFINITION. The implementation parameters of spec/00_scope.md section 5 (R6 to R13), by the spec's
names. All are constants of the block, never state (R44). `nRsv` is the one parameter with two
documented readings (R7, 90_conflicts.md C1); every other name that depends on it is written in
terms of it.
-/

namespace Sys2Proof.Config

/-- `SOF`, the start marker (R6). -/
def sof : Byte := 0x7A

/-- `EOF`, the end marker (R6). -/
def eof : Byte := 0xA7

/-- `N_RSV`, the reserved zero bytes of an outbound frame: 1 (R7; UNVERIFIED, log 8, unsafe). -/
def nRsv : Nat := 1

/-- `HDR`: address, length, reserved bytes, command high, command low (R7). -/
def hdr : Nat := 4 + nRsv

/-- `PMAX`, the largest payload one frame carries and the size of `PBUF` (R7, R13). -/
def pmax : Nat := 255 - hdr

/-- `CRC_INIT` (R8). -/
def crcInit : Word := 0xFFFF

/-- `CRC_POLY` (R8). -/
def crcPoly : Word := 0xA001

/-- `RX_SKIP`, the envelope bytes of an inbound frame (R9). -/
def rxSkip : Nat := 6

/-- `RX_LEN_ADJ`: the payload is the outer length less this (R9). -/
def rxLenAdj : Nat := 4

/-- `RX_LEN_IDX`, the index of the outer length field (R9). -/
def rxLenIdx : Nat := 2

/-- `CMD_READ1`, the command of `TX.READ1` (R10). -/
def cmdRead1 : Word := 0x0001

/-- `MASK15` (R11). -/
def mask15 : Word := 0x7FFF

/-- The mask of a descriptor that masks nothing (30_encoding.md R85). -/
def maskNone : Word := 0xFFFF

/-- `OFF_CUR`, 300.0 at exponent 2 (R11). -/
def offCur : Nat := 30000

/-- `OFF_TEMP` (R11). -/
def offTemp : Nat := 50

/-- `PL_MAX`, the size of `PLBUF` (R12, R13). -/
def plMax : Nat := 1069

/-- `SNAP_MAX`, the size of `SNAP` (R12, R13). -/
def snapMax : Nat := 543

/-- `FIXBYTES`, the bytes of the 33 scalar fields (R12). -/
def fixBytes : Nat := 49

/-- `NFIX`, the scalar fields (R12). -/
def nFix : Nat := 33

end Sys2Proof.Config
end

