-- ==== Sys2Proof/Machine/Operands.lean ====
section
/-!
DEFINITION. Operand forms and byte order: the halves of a 16-bit value, the big-endian pair, the
extractor's shift register, and the operand ranges of 30_encoding.md R71.
-/

namespace Sys2Proof.Machine

/-- `zext_16` of a byte (R15). -/
def zext16 (b : Byte) : Word := b.setWidth 16

/-- `hi8(v) = v[15:8]` (R15, R54). -/
def hi8 (v : Word) : Byte := v.extractLsb' 8 8

/-- `lo8(v) = v[7:0]` (R15, R54). -/
def lo8 (v : Word) : Byte := v.extractLsb' 0 8

/-- One shift of `SR`: the byte comes in at the low end (R162). -/
def shiftIn (sr : Word) (b : Byte) : Word := (sr <<< 8) ||| zext16 b

/-- `u16be(b0, b1)`: the byte that comes first is the more significant (R15, R53). -/
def u16be (b0 b1 : Byte) : Word := shiftIn (shiftIn 0 b0) b1

/-- `TX.LOAD` takes an index of `PBUF` (R71). -/
def pbufIndexOk (i : BitVec 16) : Bool := decide (i.toNat ≤ Config.pmax - 1)

/-- `PL.WRITE` takes an index of `PLBUF` (R71). -/
def plbufIndexOk (i : BitVec 16) : Bool := decide (i.toNat ≤ Config.plMax - 1)

/-- `PL.SETLEN` takes a length up to `PL_MAX` (R71). -/
def plLenOk (n : BitVec 16) : Bool := decide (n.toNat ≤ Config.plMax)

/-- `TX.BUILD` builds a frame for a length up to `PMAX`; above it faults (R71, R128). -/
def plenOk (plen : BitVec 8) : Bool := decide (plen.toNat ≤ Config.pmax)

end Sys2Proof.Machine
end

