-- ==== Sys2Proof/Machine/Checksum.lean ====
section
/-!
DEFINITION. The checksum functions of 40_crc.md section 1, and the shift register of R109.
-/

namespace Sys2Proof.Machine

/-- `crc_bit` (R100): shift right by one, and XOR `0xA001` in if the bit shifted out was 1. -/
def crcBit (a : Word) : Word :=
  if a.getLsbD 0 then (a >>> 1) ^^^ Config.crcPoly else a >>> 1

/-- `n` iterations of `crc_bit`. -/
def crcSteps : Nat → Word → Word
  | 0, a => a
  | n + 1, a => crcSteps n (crcBit a)

/-- `crc_byte` (R101): the byte goes into bits 7 to 0 once, then exactly eight iterations. -/
def crcByte (a : Word) (b : Byte) : Word := crcSteps 8 (a ^^^ zext16 b)

/-- `crc16` (R102): from `0xFFFF`, the bytes in order; nothing is done to the accumulator after the last
byte (R104). -/
def crc16 (bs : List Byte) : Word := bs.foldl crcByte Config.crcInit

/-- One shift of the register of R109, bit by bit: new bit 15 is old bit 0, new bits 13 and 0 are old bits
14 and 1 XORed with old bit 0, every other new bit `i` is old bit `i + 1`. -/
def crcShift (a : Word) : Word :=
  BitVec.ofFnLE fun i : Fin 16 =>
    if i.val = 15 then a.getLsbD 0
    else if i.val = 13 then a.getLsbD 14 ^^ a.getLsbD 0
    else if i.val = 0 then a.getLsbD 1 ^^ a.getLsbD 0
    else a.getLsbD (i.val + 1)

end Sys2Proof.Machine
end

