-- ==== Sys2Proof/Machine/Frame.lean ====
section
/-!
DEFINITION. The frame formats as functions of bytes: the outbound frame (41_tx_framer.md R120 to R124), the
framer's internal sequence that emits the same bytes one position at a time (R132), and the slicing of an
inbound frame (42_rx_deframer.md R140).
-/

namespace Sys2Proof.Machine

/-- Step 1: address, a placeholder length byte, the reserved zero bytes, the command high byte first, the
payload (R121). -/
def frameBody (cmd : Word) (payload : List Byte) (addr : Byte) : List Byte :=
  [addr, 0] ++ List.replicate Config.nRsv 0 ++ [hi8 cmd, lo8 cmd] ++ payload

/-- Step 2: the placeholder becomes the length of the whole body (R122). -/
def patchLength (body : List Byte) : List Byte := body.set 1 (BitVec.ofNat 8 body.length)

/-- `build_frame` (R120): steps 1 to 4. Defined by the spec for payloads of at most `PMAX` bytes. -/
def buildFrame (cmd : Word) (payload : List Byte) (addr : Byte) : List Byte :=
  let body := patchLength (frameBody cmd payload addr)
  let c := crc16 body
  [Config.sof] ++ body ++ [hi8 c, lo8 c] ++ [Config.eof]

/-- `deframe` (R140); `none` is `ShortFrame`. -/
def deframe (f : List Byte) : Option (List Byte) :=
  if f.length < Config.rxSkip then none
  else
    let l := (f.getD Config.rxLenIdx 0).toNat
    if l < Config.rxLenAdj then none
    else if f.length < l + 2 then none
    else some ((f.drop Config.rxSkip).take (l - Config.rxLenAdj))

/-! ## The framer's internal sequence (R132) -/

/-- The positions of R132. -/
inductive FramerPos where
  | sof | addr | len | rsv | cmdH | cmdL | pay | crcH | crcL | eof
deriving DecidableEq, Repr

/-- The framer inside one `TX.BUILD`: the bytes emitted so far and the transient registers `TX_LEN`,
`TX_ACC`, `TX_IDX`, which no later step reads (10_state.md R20). -/
structure FramerRun where
  out   : List Byte
  txLen : Byte
  txAcc : Word
  txIdx : Nat
deriving DecidableEq, Repr

/-- Emit a body byte and take it into `TX_ACC`. -/
def emitBody (x : Byte) (r : FramerRun) : FramerRun :=
  { r with out := r.out ++ [x], txAcc := crcByte r.txAcc x }

/-- Emit a byte the checksum does not cover. -/
def emitPlain (x : Byte) (r : FramerRun) : FramerRun := { r with out := r.out ++ [x] }

/-- One position of R132: the byte emitted and the effect on the transient registers. -/
def framerAt (cmd : Word) (payload : List Byte) (addr : Byte) (r : FramerRun) : FramerPos → FramerRun
  | .sof => { out := r.out ++ [Config.sof], txLen := BitVec.ofNat 8 (Config.hdr + payload.length),
              txAcc := Config.crcInit, txIdx := 0 }
  | .addr => emitBody addr r
  | .len => emitBody r.txLen r
  | .rsv => emitBody 0 r
  | .cmdH => emitBody (hi8 cmd) r
  | .cmdL => emitBody (lo8 cmd) r
  | .pay => let t := emitBody (payload.getD r.txIdx 0) r; { t with txIdx := t.txIdx + 1 }
  | .crcH => emitPlain (hi8 r.txAcc) r
  | .crcL => emitPlain (lo8 r.txAcc) r
  | .eof => emitPlain Config.eof r

/-- The positions in order: `T_RSV` `N_RSV` times, `T_PAY` once per payload byte (R132). -/
def framerPositions (plen : Nat) : List FramerPos :=
  [.sof, .addr, .len] ++ List.replicate Config.nRsv .rsv ++ [.cmdH, .cmdL] ++
    List.replicate plen .pay ++ [.crcH, .crcL, .eof]

/-- The whole sequence, from any values of the transient registers. -/
def framerSequence (cmd : Word) (payload : List Byte) (addr : Byte) (r : FramerRun) : FramerRun :=
  (framerPositions payload.length).foldl (framerAt cmd payload addr) r

end Sys2Proof.Machine
end

