-- ==== Sys2Proof/Syntax.lean ====
section
/-!
DEFINITION. The instructions: one constructor per row of spec/opcode_table.json, in the table's order.
An operand the encoding marks unused (30_encoding.md R73) is no argument of its constructor.
-/

namespace Sys2Proof

/-- The kinds of encoded object of 30_encoding.md, and the pseudo-operations of R92, which have no
encoding of their own. -/
inductive Format where
  | cw | pseudo | txf | rxf | tpl
deriving DecidableEq, Repr

/-- The 60 rows of the opcode table. A descriptor has no operand but the payload bytes it reads
(44_telemetry_fields.md section 1). -/
inductive Instr where
  -- Host operations, format `CW` (30_encoding.md R70; the mnemonic and the rule stand behind each).
  | crcInit -- CRC.INIT (R105)
  | crcByte (b : Byte) -- CRC.BYTE (R106)
  | crcRead -- CRC.READ (R107)
  | reserved3 -- RESERVED.3 (R72)
  | txLoad (i : BitVec 16) (b : Byte) -- TX.LOAD (R126)
  | txBuild (cmd : Word) (addr : Byte) (plen : BitVec 8) -- TX.BUILD (R127)
  | reserved6 -- RESERVED.6 (R72)
  | reserved7 -- RESERVED.7 (R72)
  | rxByte (b : Byte) -- RX.BYTE (R147)
  | rxEnd -- RX.END (R152)
  | plWrite (i : BitVec 16) (b : Byte) -- PL.WRITE (R154)
  | plSetlen (n : BitVec 16) -- PL.SETLEN (R155)
  | tdDecode -- TD.DECODE (R177)
  | tdRead (k : BitVec 16) -- TD.READ (R180)
  | reservedE -- RESERVED.E (R72)
  | sysReset -- SYS.RESET (R270)
  | txRead1 -- TX.READ1 (R129)
  -- Pseudo-operations, each a fixed sequence of real operations (R92).
  | crcBlock (bs : List Byte) -- CRC.BLOCK (R108)
  | txPayload (ps : List Byte) -- TX.PAYLOAD (R131)
  | txFrame (cmd : Word) (addr : Byte) (ps : List Byte) -- TX.FRAME (R131)
  | rxFrame (fs : List Byte) -- RX.FRAME (R153)
  | plLoad (ps : List Byte) -- PL.LOAD (R156)
  | decodePayload (ps : List Byte) -- DECODE (R186)
  -- The two frame formats as objects of their own (R74, R80).
  | txf (cmd : Word) (addr : Byte) (ps : List Byte) -- TXF (R74)
  | rxf (fs : List Byte) -- RXF (R80)
  -- The 35 field descriptors, `fid` 0 to 34 in the table's order (44_telemetry_fields.md section 1).
  | onlineStatus -- online_status (R200)
  | batteriesSeriesNumber -- batteries_series_number (R201)
  | cellIVoltage -- cell_i_voltage (R202)
  | maxCellNumber -- max_cell_number (R203)
  | maxCellVoltage -- max_cell_voltage (R204)
  | minCellNumber -- min_cell_number (R205)
  | minCellVoltage -- min_cell_voltage (R206)
  | totalCurrent -- total_current (R207)
  | soc -- soc (R208)
  | soh -- soh (R209)
  | actualCapacity -- actual_capacity (R210)
  | surplusCapacity -- surplus_capacity (R211)
  | nominalCapacity -- nominal_capacity (R212)
  | batteriesTemperatureNumber -- batteries_temperature_number (R213)
  | cellTemperatureI -- cell_temperature_i (R214)
  | environmentalTemperature -- environmental_temperature (R215)
  | pcbTemperature -- pcb_temperature (R216)
  | maxTemperatureCellNumber -- max_temperature_cell_number (R217)
  | maxTemperatureCellValue -- max_temperature_cell_value (R218)
  | minTemperatureCellNumber -- min_temperature_cell_number (R219)
  | minTemperatureCellValue -- min_temperature_cell_value (R220)
  | fault1 -- fault1 (R221)
  | fault2 -- fault2 (R222)
  | alert1 -- alert1 (R223)
  | alert2 -- alert2 (R224)
  | alert3 -- alert3 (R225)
  | alert4 -- alert4 (R226)
  | cycleIndex -- cycle_index (R227)
  | totalVoltage -- total_voltage (R228)
  | status -- status (R229)
  | totalChargingCapacity -- total_charging_capacity (R230)
  | totalDischargeCapacity -- total_discharge_capacity (R231)
  | totalRechargeTime -- total_recharge_time (R232)
  | totalDischargeTime -- total_discharge_time (R233)
  | batteryType -- battery_type (R234)
deriving DecidableEq, Repr

/-- The row's format in the opcode table. -/
def Instr.format : Instr → Format
  | .crcInit => .cw
  | .crcByte _ => .cw
  | .crcRead => .cw
  | .reserved3 => .cw
  | .txLoad _ _ => .cw
  | .txBuild _ _ _ => .cw
  | .reserved6 => .cw
  | .reserved7 => .cw
  | .rxByte _ => .cw
  | .rxEnd => .cw
  | .plWrite _ _ => .cw
  | .plSetlen _ => .cw
  | .tdDecode => .cw
  | .tdRead _ => .cw
  | .reservedE => .cw
  | .sysReset => .cw
  | .txRead1 => .cw
  | .crcBlock _ => .pseudo
  | .txPayload _ => .pseudo
  | .txFrame _ _ _ => .pseudo
  | .rxFrame _ => .pseudo
  | .plLoad _ => .pseudo
  | .decodePayload _ => .pseudo
  | .txf _ _ _ => .txf
  | .rxf _ => .rxf
  | .onlineStatus => .tpl
  | .batteriesSeriesNumber => .tpl
  | .cellIVoltage => .tpl
  | .maxCellNumber => .tpl
  | .maxCellVoltage => .tpl
  | .minCellNumber => .tpl
  | .minCellVoltage => .tpl
  | .totalCurrent => .tpl
  | .soc => .tpl
  | .soh => .tpl
  | .actualCapacity => .tpl
  | .surplusCapacity => .tpl
  | .nominalCapacity => .tpl
  | .batteriesTemperatureNumber => .tpl
  | .cellTemperatureI => .tpl
  | .environmentalTemperature => .tpl
  | .pcbTemperature => .tpl
  | .maxTemperatureCellNumber => .tpl
  | .maxTemperatureCellValue => .tpl
  | .minTemperatureCellNumber => .tpl
  | .minTemperatureCellValue => .tpl
  | .fault1 => .tpl
  | .fault2 => .tpl
  | .alert1 => .tpl
  | .alert2 => .tpl
  | .alert3 => .tpl
  | .alert4 => .tpl
  | .cycleIndex => .tpl
  | .totalVoltage => .tpl
  | .status => .tpl
  | .totalChargingCapacity => .tpl
  | .totalDischargeCapacity => .tpl
  | .totalRechargeTime => .tpl
  | .totalDischargeTime => .tpl
  | .batteryType => .tpl

end Sys2Proof
end

