-- ==== Sys2Proof/WellFormed.lean ====
section
/-!
DEFINITION. Which terms of `Instr` an encoding stands for. Operand RANGES (30_encoding.md R71) are no
matter of form: an operand outside its range is encoded like any other and the operation is refused
or faults when it runs.
-/

namespace Sys2Proof

/-- Well-formed instructions.
* `TX.BUILD cmd=1, addr=0, plen=0` is written `TX.READ1` (R129): its one word has one reading (log 9).
* The expansion of a pseudo-operation must fit the operand fields of R70: the indices 0 to k of
  `TX.LOAD` and `PL.WRITE` are 16 bits, the `plen` of `TX.BUILD` is 8 bits, the operand of
  `PL.SETLEN` 16 bits (log 13).
* An outbound frame carries at most `PMAX` payload bytes (R120). -/
def Instr.wellFormed : Instr → Bool
  | .crcInit => true
  | .crcByte _ => true
  | .crcRead => true
  | .reserved3 => true
  | .txLoad _ _ => true
  | .txBuild cmd addr plen => !(cmd == Config.cmdRead1 && addr == 0 && plen == 0)
  | .reserved6 => true
  | .reserved7 => true
  | .rxByte _ => true
  | .rxEnd => true
  | .plWrite _ _ => true
  | .plSetlen _ => true
  | .tdDecode => true
  | .tdRead _ => true
  | .reservedE => true
  | .sysReset => true
  | .txRead1 => true
  | .crcBlock _ => true
  | .txPayload ps => decide (ps.length ≤ 65536)
  | .txFrame _ _ ps => decide (ps.length ≤ 255)
  | .rxFrame _ => true
  | .plLoad ps => decide (ps.length ≤ 65535)
  | .decodePayload ps => decide (ps.length ≤ 65535)
  | .txf _ _ ps => decide (ps.length ≤ Config.pmax)
  | .rxf _ => true
  | .onlineStatus => true
  | .batteriesSeriesNumber => true
  | .cellIVoltage => true
  | .maxCellNumber => true
  | .maxCellVoltage => true
  | .minCellNumber => true
  | .minCellVoltage => true
  | .totalCurrent => true
  | .soc => true
  | .soh => true
  | .actualCapacity => true
  | .surplusCapacity => true
  | .nominalCapacity => true
  | .batteriesTemperatureNumber => true
  | .cellTemperatureI => true
  | .environmentalTemperature => true
  | .pcbTemperature => true
  | .maxTemperatureCellNumber => true
  | .maxTemperatureCellValue => true
  | .minTemperatureCellNumber => true
  | .minTemperatureCellValue => true
  | .fault1 => true
  | .fault2 => true
  | .alert1 => true
  | .alert2 => true
  | .alert3 => true
  | .alert4 => true
  | .cycleIndex => true
  | .totalVoltage => true
  | .status => true
  | .totalChargingCapacity => true
  | .totalDischargeCapacity => true
  | .totalRechargeTime => true
  | .totalDischargeTime => true
  | .batteryType => true

end Sys2Proof
end

