-- ==== Sys2Proof/Decode.lean ====
section
/-!
DEFINITION. Decoding and encoding (30_encoding.md). A command word decodes to one instruction, whatever its
bits (R70, R72, R73). The other formats of the spec are read too: the outbound frame (R74), the inbound
frame (R80), the descriptor table (R85). The encoder follows the same tables.
-/

namespace Sys2Proof

open Sys2Proof.Machine

/-! ## The command word -/

/-- `op = CW[35:32]` (R70). -/
def cwOp (cw : CommandWord) : BitVec 4 := cw.extractLsb' 32 4

/-- `a = CW[31:16]` (R70). -/
def cwA (cw : CommandWord) : BitVec 16 := cw.extractLsb' 16 16

/-- `b = CW[15:8]` (R70). -/
def cwB (cw : CommandWord) : BitVec 8 := cw.extractLsb' 8 8

/-- `c = CW[7:0]` (R70). -/
def cwC (cw : CommandWord) : BitVec 8 := cw.extractLsb' 0 8

/-- The one word of the row `TX.READ1`: `op = 5`, `a = 1`, `b = c = 0` (R129). -/
def read1Word : CommandWord := 0x500010000

/-- The instruction of a command word: the table of R70. Operand fields marked unused are not looked at
(R73). The word of the row `TX.READ1` is read as that row (log 9). -/
def decodeWord (cw : CommandWord) : Instr :=
  match (cwOp cw).toNat with
  | 0x0 => .crcInit
  | 0x1 => .crcByte (cwB cw)
  | 0x2 => .crcRead
  | 0x3 => .reserved3
  | 0x4 => .txLoad (cwA cw) (cwB cw)
  | 0x5 => if cw = read1Word then .txRead1 else .txBuild (cwA cw) (cwB cw) (cwC cw)
  | 0x6 => .reserved6
  | 0x7 => .reserved7
  | 0x8 => .rxByte (cwB cw)
  | 0x9 => .rxEnd
  | 0xA => .plWrite (cwA cw) (cwB cw)
  | 0xB => .plSetlen (cwA cw)
  | 0xC => .tdDecode
  | 0xD => .tdRead (cwA cw)
  | 0xE => .reservedE
  | _ => .sysReset

/-! ## The other formats -/

/-- Why an object is no encoding of an instruction. -/
inductive DecodeError where
  /-- A sequence of command words: a pseudo-operation has no encoding of its own (R92). -/
  | noEncodingOfItsOwn
  /-- An outbound frame: shorter than the nine bytes of R74 with an empty payload. -/
  | frameTooShort
  | badStartMarker
  | badEndMarker
  /-- The length byte is not the length of the body (R75). -/
  | badLength
  /-- A reserved byte is not zero (R78). -/
  | badReserved
  /-- The checksum field is not `crc16` of the body (R76). -/
  | badChecksum
  /-- A descriptor index above 34 (R42). -/
  | noSuchDescriptor
deriving DecidableEq, Repr

/-- Read an outbound frame back by the table of R74. The block itself never does (log 11). -/
def decodeOutbound (f : List Byte) : Except DecodeError Instr :=
  let body := (f.drop 1).take (f.length - 4)
  let payload := body.drop Config.hdr
  let cmd := u16be (f.getD (3 + Config.nRsv) 0) (f.getD (4 + Config.nRsv) 0)
  let c := u16be (f.getD (f.length - 3) 0) (f.getD (f.length - 2) 0)
  if f.length < Config.hdr + 4 then .error .frameTooShort
  else if f.getD 0 0 ≠ Config.sof then .error .badStartMarker
  else if f.getD (f.length - 1) 0 ≠ Config.eof then .error .badEndMarker
  else if (f.getD 2 0).toNat + 4 ≠ f.length then .error .badLength
  else if (f.drop 3).take Config.nRsv ≠ List.replicate Config.nRsv 0 then .error .badReserved
  else if c ≠ crc16 body then .error .badChecksum
  else .ok (.txf cmd (f.getD 1 0) payload)

/-- The descriptor the sequencer runs at an index (R42, R160): the rows of the format TPL, by `fid`. -/
def decodeDescriptor (fid : Nat) : Except DecodeError Instr :=
  match fid with
  | 0 => .ok .onlineStatus
  | 1 => .ok .batteriesSeriesNumber
  | 2 => .ok .cellIVoltage
  | 3 => .ok .maxCellNumber
  | 4 => .ok .maxCellVoltage
  | 5 => .ok .minCellNumber
  | 6 => .ok .minCellVoltage
  | 7 => .ok .totalCurrent
  | 8 => .ok .soc
  | 9 => .ok .soh
  | 10 => .ok .actualCapacity
  | 11 => .ok .surplusCapacity
  | 12 => .ok .nominalCapacity
  | 13 => .ok .batteriesTemperatureNumber
  | 14 => .ok .cellTemperatureI
  | 15 => .ok .environmentalTemperature
  | 16 => .ok .pcbTemperature
  | 17 => .ok .maxTemperatureCellNumber
  | 18 => .ok .maxTemperatureCellValue
  | 19 => .ok .minTemperatureCellNumber
  | 20 => .ok .minTemperatureCellValue
  | 21 => .ok .fault1
  | 22 => .ok .fault2
  | 23 => .ok .alert1
  | 24 => .ok .alert2
  | 25 => .ok .alert3
  | 26 => .ok .alert4
  | 27 => .ok .cycleIndex
  | 28 => .ok .totalVoltage
  | 29 => .ok .status
  | 30 => .ok .totalChargingCapacity
  | 31 => .ok .totalDischargeCapacity
  | 32 => .ok .totalRechargeTime
  | 33 => .ok .totalDischargeTime
  | 34 => .ok .batteryType
  | _ => .error .noSuchDescriptor

/-- An encoded object of one of the formats of 30_encoding.md. -/
inductive Encoding where
  /-- One host operation (R70). -/
  | word (cw : CommandWord)
  /-- The command words of a pseudo-operation's expansion (R92). -/
  | sequence (cws : List CommandWord)
  /-- The bytes of an outbound frame (R74). -/
  | outbound (bytes : List Byte)
  /-- The bytes of one notification (R80). -/
  | inbound (bytes : List Byte)
  /-- An index of the descriptor table (R85). -/
  | descriptor (fid : Nat)
deriving DecidableEq, Repr

/-- The format an object is in. -/
def Encoding.format : Encoding → Format
  | .word _ => .cw
  | .sequence _ => .pseudo
  | .outbound _ => .txf
  | .inbound _ => .rxf
  | .descriptor _ => .tpl

/-- The instruction an encoded object stands for. A sequence of command words is read word by word, so it
is no single instruction (R92). Every byte sequence is an inbound frame (R80, R82). -/
def decode : Encoding → Except DecodeError Instr
  | .word cw => .ok (decodeWord cw)
  | .sequence _ => .error .noEncodingOfItsOwn
  | .outbound bytes => decodeOutbound bytes
  | .inbound bytes => .ok (.rxf bytes)
  | .descriptor fid => decodeDescriptor fid

/-! ## The encoder -/

/-- A command word from its fields (R70); `packCW op 0 0 0` leaves unused fields zero. -/
def packCW (op : BitVec 4) (a : BitVec 16) (b c : BitVec 8) : CommandWord := op ++ a ++ b ++ c

/-- The word of a host operation (R70); the other rows have none. -/
def encodeWord : Instr → Option CommandWord
  | .crcInit => some (packCW 0x0 0 0 0)
  | .crcByte b => some (packCW 0x1 0 b 0)
  | .crcRead => some (packCW 0x2 0 0 0)
  | .reserved3 => some (packCW 0x3 0 0 0)
  | .txLoad i b => some (packCW 0x4 i b 0)
  | .txBuild cmd addr plen => some (packCW 0x5 cmd addr plen)
  | .reserved6 => some (packCW 0x6 0 0 0)
  | .reserved7 => some (packCW 0x7 0 0 0)
  | .rxByte b => some (packCW 0x8 0 b 0)
  | .rxEnd => some (packCW 0x9 0 0 0)
  | .plWrite i b => some (packCW 0xA i b 0)
  | .plSetlen n => some (packCW 0xB n 0 0)
  | .tdDecode => some (packCW 0xC 0 0 0)
  | .tdRead k => some (packCW 0xD k 0 0)
  | .reservedE => some (packCW 0xE 0 0 0)
  | .sysReset => some (packCW 0xF 0 0 0)
  | .txRead1 => some (packCW 0x5 Config.cmdRead1 0 0)
  | .crcBlock _ | .txPayload _ | .txFrame _ _ _ | .rxFrame _ | .plLoad _ | .decodePayload _
  | .txf _ _ _ | .rxf _ | .onlineStatus | .batteriesSeriesNumber | .cellIVoltage | .maxCellNumber
  | .maxCellVoltage | .minCellNumber | .minCellVoltage | .totalCurrent | .soc | .soh
  | .actualCapacity | .surplusCapacity | .nominalCapacity | .batteriesTemperatureNumber
  | .cellTemperatureI | .environmentalTemperature | .pcbTemperature | .maxTemperatureCellNumber
  | .maxTemperatureCellValue | .minTemperatureCellNumber | .minTemperatureCellValue | .fault1
  | .fault2 | .alert1 | .alert2 | .alert3 | .alert4 | .cycleIndex | .totalVoltage | .status
  | .totalChargingCapacity | .totalDischargeCapacity | .totalRechargeTime | .totalDischargeTime
  | .batteryType => none

/-- `TX.LOAD i, p0; TX.LOAD i+1, p1; ...` -/
def loadOps : Nat → List Byte → List Instr
  | _, [] => []
  | i, b :: bs => .txLoad (BitVec.ofNat 16 i) b :: loadOps (i + 1) bs

/-- `PL.WRITE i, p0; PL.WRITE i+1, p1; ...` -/
def writeOps : Nat → List Byte → List Instr
  | _, [] => []
  | i, b :: bs => .plWrite (BitVec.ofNat 16 i) b :: writeOps (i + 1) bs

/-- The expansion of a pseudo-operation into real operations: the table of R92. Every other instruction
stands for itself. -/
def expand : Instr → List Instr
  | .crcBlock bs => .crcInit :: (bs.map .crcByte ++ [.crcRead])
  | .txPayload ps => loadOps 0 ps
  | .txFrame cmd addr ps => loadOps 0 ps ++ [.txBuild cmd addr (BitVec.ofNat 8 ps.length)]
  | .rxFrame fs => fs.map .rxByte ++ [.rxEnd]
  | .plLoad ps => writeOps 0 ps ++ [.plSetlen (BitVec.ofNat 16 ps.length)]
  | .decodePayload ps => writeOps 0 ps ++ [.plSetlen (BitVec.ofNat 16 ps.length), .tdDecode]
  | i => [i]

/-- The encoding of an instruction in its row's format; `none` for a pseudo-operation. -/
def encodeOne : Instr → Option Encoding
  | .txf cmd addr ps => some (.outbound (buildFrame cmd ps addr))
  | .rxf fs => some (.inbound fs)
  | .onlineStatus => some (.descriptor 0)
  | .batteriesSeriesNumber => some (.descriptor 1)
  | .cellIVoltage => some (.descriptor 2)
  | .maxCellNumber => some (.descriptor 3)
  | .maxCellVoltage => some (.descriptor 4)
  | .minCellNumber => some (.descriptor 5)
  | .minCellVoltage => some (.descriptor 6)
  | .totalCurrent => some (.descriptor 7)
  | .soc => some (.descriptor 8)
  | .soh => some (.descriptor 9)
  | .actualCapacity => some (.descriptor 10)
  | .surplusCapacity => some (.descriptor 11)
  | .nominalCapacity => some (.descriptor 12)
  | .batteriesTemperatureNumber => some (.descriptor 13)
  | .cellTemperatureI => some (.descriptor 14)
  | .environmentalTemperature => some (.descriptor 15)
  | .pcbTemperature => some (.descriptor 16)
  | .maxTemperatureCellNumber => some (.descriptor 17)
  | .maxTemperatureCellValue => some (.descriptor 18)
  | .minTemperatureCellNumber => some (.descriptor 19)
  | .minTemperatureCellValue => some (.descriptor 20)
  | .fault1 => some (.descriptor 21)
  | .fault2 => some (.descriptor 22)
  | .alert1 => some (.descriptor 23)
  | .alert2 => some (.descriptor 24)
  | .alert3 => some (.descriptor 25)
  | .alert4 => some (.descriptor 26)
  | .cycleIndex => some (.descriptor 27)
  | .totalVoltage => some (.descriptor 28)
  | .status => some (.descriptor 29)
  | .totalChargingCapacity => some (.descriptor 30)
  | .totalDischargeCapacity => some (.descriptor 31)
  | .totalRechargeTime => some (.descriptor 32)
  | .totalDischargeTime => some (.descriptor 33)
  | .batteryType => some (.descriptor 34)
  | i => (encodeWord i).map .word

/-- The encoding of an instruction: in its row's format, or the words of its expansion (R92). -/
def encode (i : Instr) : Encoding :=
  match encodeOne i with
  | some e => e
  | none => .sequence ((expand i).filterMap encodeWord)

/-! ## The word of an opcode-table row -/

/-- The instruction the decoder reads from an instruction whose bits are `w`. The one word of an
instruction is a command word of 36 bits, bit 0 the least significant (R70); the table's rows of fewer
bits are formats of payload bytes, which select no instruction (log 14). -/
def decodeTableWord (nbits w : Nat) : Option Instr :=
  if nbits < 36 ∨ 2 ^ 36 ≤ w then none else some (decodeWord (BitVec.ofNat 36 w))

end Sys2Proof
end

