-- ==== Sys2Proof/Machine/State.lean ====
section
/-!
DEFINITION. The state of one VWCODEC instance: spec/10_state.md R20 line by line, unit by unit, with the
reset values of 70_reset_and_hazards.md R281, and the host's port (the model's own: logs 1 and 2).
All of it is plain data. Registers are bit vectors of the widths R20 gives them; the buffers are lists
of (index, byte) pairs in one canonical form; `TXOUT` and `SNAP` are lists, oldest first.
-/

namespace Sys2Proof.Machine

/-- `RXS`, where the deframer is in the current inbound frame (R28). -/
inductive RxState where
  | idle   -- `R_IDLE`, between frames
  | env    -- `R_ENV`, taking in the six envelope bytes
  | pay    -- `R_PAY`, taking in payload bytes
  | tail   -- `R_TAIL`, payload complete, dropping what follows
  | fault  -- `R_FAULT`, the frame was found bad, dropping what follows
deriving DecidableEq, Repr

/-- One snapshot entry `(fid, idx, q, e)`, standing for the number `q / 10^e` (R37, R171). -/
structure Entry where
  fid : BitVec 6
  idx : BitVec 8
  q   : Int
  e   : BitVec 2
deriving DecidableEq, Repr

/-- The three faults of the block, with what each reports (60_exceptions.md R250). They are taken, not
stops of the model: an operation that raises one ends in a next state (R254, log 4). -/
inductive BlockFault where
  /-- Code 1: a field's bytes run past `PL_LEN`; descriptor, element and offset of that field (R251). -/
  | truncatedPayload (fsq : BitVec 6) (li : BitVec 8) (cur : BitVec 11)
  /-- Code 2: `plen` exceeds `PMAX` (R252). -/
  | lengthOverflow (plen : BitVec 8)
  /-- Code 3: the frame is short; `RX_L` when the outer length is below 4, else `RX_CNT` (R148, R152). -/
  | shortFrame (info : BitVec 9)
deriving DecidableEq, Repr

/-- The refusal reasons of R267. A refused operation changes no state (R266), so it too ends in a next
state of the model (log 5). -/
inductive RefusalReason where
  | reservedOp | indexRange | unwrittenRead | frameInProgress | snapshotNotValid
deriving DecidableEq, Repr

/-- What one operation gives back to the host (R70 result column, R258, R266). -/
inductive Result where
  | ok
  | checksum (value : Word)
  | entry (value : Entry)
  | fault (why : BlockFault)
  | refused (why : RefusalReason)
deriving DecidableEq, Repr

/-- The indexed spaces of R50. -/
inductive Space where
  | pbuf | plbuf | snap
deriving DecidableEq, Repr

/-- Why the MODEL stops. The spec's own faults are `BlockFault` and stop nothing. Neither constructor is
reached from a state in which the invariant of Safety.lean holds. -/
inductive Fault where
  /-- Raised by a field read, or by `TD.READ`, of an element below `PL_LEN` or `SNAP_CNT` that nothing has
  written: it has no value (R63). Safe: the spec lets no admitted operation read one (log 6). -/
  | unwrittenElement (space : Space) (index : Nat)
  /-- Raised by a write of `PLBUF` or `SNAP` at an index past the last element (R13). Safe: the spec's
  rules never form such an index (log 7). -/
  | outsideSpace (space : Space) (index : Nat)
deriving DecidableEq, Repr

/-- Why the model has no meaning for an instruction. -/
inductive Refusal where
  /-- Raised by an arm of `exec` whose instruction has no meaning yet. Safe. -/
  | notModelled (mnemonic : String)
  /-- Raised by a pseudo-operation whose list is too long for the operand fields of its expansion, so that
  no sequence of command words exists (R70, R92, R128). Safe: it is an ill-formed term (log 13). -/
  | noExpansion (mnemonic : String)
deriving DecidableEq, Repr

/-- A byte buffer: (index, byte) pairs by rising index. An index not listed has no value (R63). -/
abbrev Memory := List Host.Cell

/-- CU (R21). -/
structure ChecksumUnit where
  acc : Word              -- `ACC`
deriving DecidableEq, Repr

/-- TF (R24 to R27). -/
structure TransmitFramer where
  pbuf    : Memory        -- `PBUF[0..PMAX-1]`
  txout   : List Byte     -- `TXOUT`
  txDone  : Bool          -- `TX_DONE`
  txErr   : Bool          -- `TX_ERR`
  txCause : BitVec 2      -- `TX_CAUSE`
deriving DecidableEq, Repr

/-- RD (R28, R29, R32). -/
structure ReceiveDeframer where
  rxs     : RxState       -- `RXS`
  rxCnt   : BitVec 9      -- `RX_CNT`
  rxL     : BitVec 8      -- `RX_L`
  rxNeed  : BitVec 8      -- `RX_NEED`
  rxDone  : Bool          -- `RX_DONE`
  rxErr   : Bool          -- `RX_ERR`
  rxCause : BitVec 2      -- `RX_CAUSE`
deriving DecidableEq, Repr

/-- The payload as deframer, host and extractor share it (R30, R62). -/
structure PayloadBuffer where
  plbuf : Memory          -- `PLBUF[0..PL_MAX-1]`
  plLen : BitVec 11       -- `PL_LEN`
deriving DecidableEq, Repr

/-- TE (R33 to R39). -/
structure TelemetryExtractor where
  cur     : BitVec 11     -- `CUR`
  fsq     : BitVec 6      -- `FSQ`
  li      : BitVec 8      -- `LI`
  n       : BitVec 8      -- `N`
  tn      : BitVec 8      -- `TN`
  snap    : List Entry    -- `SNAP[0..SNAP_CNT-1]`
  snapCnt : BitVec 10     -- `SNAP_CNT`
  tdValid : Bool          -- `TD_VALID`
  tdErr   : Bool          -- `TD_ERR`
  tdCause : BitVec 2      -- `TD_CAUSE`
deriving DecidableEq, Repr

/-- The host's side of the block's port, not state of the block: the operations the host has still to
issue (log 1) and the result of each operation carried out (log 2; R255 and R266 ask for such a log). -/
structure HostPort where
  pending : List CommandWord
  results : List Result
deriving DecidableEq, Repr

/-- One instance of the block and its host port. -/
structure State where
  cu   : ChecksumUnit
  tf   : TransmitFramer
  rd   : ReceiveDeframer
  pl   : PayloadBuffer
  te   : TelemetryExtractor
  host : HostPort
deriving DecidableEq, Repr

/-- The state right after reset (R281); the host has issued nothing (log 1). -/
def State.reset : State where
  cu := { acc := Config.crcInit }
  tf := { pbuf := [], txout := [], txDone := false, txErr := false, txCause := 0 }
  rd := { rxs := .idle, rxCnt := 0, rxL := 0, rxNeed := 0, rxDone := false, rxErr := false, rxCause := 0 }
  pl := { plbuf := [], plLen := 0 }
  te := { cur := 0, fsq := 0, li := 0, n := 0, tn := 0, snap := [], snapCnt := 0
          tdValid := false, tdErr := false, tdCause := 0 }
  host := { pending := [], results := [] }

end Sys2Proof.Machine
end

