-- ==== Sys2Proof/Machine/Descriptors.lean ====
section
/-!
DEFINITION. The field-descriptor table: the 35 tuples of 44_telemetry_fields.md section 1 (30_encoding.md
R85), the transform they share (43_extract_pipeline.md R169), and the names and values of entries (R171,
R181). The table is a constant, not state (R44, R66).
-/

namespace Sys2Proof.Machine

/-- The width of a field: one byte, or two bytes big-endian (R85). -/
inductive FieldWidth where
  | u8 | u16
deriving DecidableEq, Repr

/-- Bytes of a field. -/
def FieldWidth.bytes : FieldWidth → Nat
  | .u8 => 1
  | .u16 => 2

/-- How often a descriptor is read: once, or as often as a latched count says (R85, R175). -/
inductive Rep where
  | once | countN | countTN
deriving DecidableEq, Repr

/-- Which latch a count field is written to (R36, R167). -/
inductive Latch where
  | none | n | tn
deriving DecidableEq, Repr

/-- The tuple `(fid, name, width, mask, off, e, rep)`, with the latch marked on the two counts (R85). -/
structure Descriptor where
  fid   : BitVec 6
  name  : String
  width : FieldWidth
  mask  : Word
  off   : Nat
  e     : BitVec 2
  rep   : Rep
  latch : Latch
deriving DecidableEq, Repr

/-- Descriptor 0 (R200). -/
def onlineStatusField : Descriptor :=
  ⟨0, "online_status", .u8, Config.maskNone, 0, 0, .once, .none⟩

/-- Descriptor 1 (R201). -/
def batteriesSeriesNumberField : Descriptor :=
  ⟨1, "batteries_series_number", .u8, Config.maskNone, 0, 0, .once, .n⟩

/-- Descriptor 2 (R202). -/
def cellIVoltageField : Descriptor :=
  ⟨2, "cell_i_voltage", .u16, Config.mask15, 0, 3, .countN, .none⟩

/-- Descriptor 3 (R203). -/
def maxCellNumberField : Descriptor :=
  ⟨3, "max_cell_number", .u8, Config.maskNone, 0, 0, .once, .none⟩

/-- Descriptor 4 (R204). -/
def maxCellVoltageField : Descriptor :=
  ⟨4, "max_cell_voltage", .u16, Config.maskNone, 0, 3, .once, .none⟩

/-- Descriptor 5 (R205). -/
def minCellNumberField : Descriptor :=
  ⟨5, "min_cell_number", .u8, Config.maskNone, 0, 0, .once, .none⟩

/-- Descriptor 6 (R206). -/
def minCellVoltageField : Descriptor :=
  ⟨6, "min_cell_voltage", .u16, Config.maskNone, 0, 3, .once, .none⟩

/-- Descriptor 7 (R207). -/
def totalCurrentField : Descriptor :=
  ⟨7, "total_current", .u16, Config.maskNone, Config.offCur, 2, .once, .none⟩

/-- Descriptor 8 (R208). -/
def socField : Descriptor :=
  ⟨8, "soc", .u16, Config.maskNone, 0, 2, .once, .none⟩

/-- Descriptor 9 (R209). -/
def sohField : Descriptor :=
  ⟨9, "soh", .u16, Config.maskNone, 0, 2, .once, .none⟩

/-- Descriptor 10 (R210). -/
def actualCapacityField : Descriptor :=
  ⟨10, "actual_capacity", .u16, Config.maskNone, 0, 2, .once, .none⟩

/-- Descriptor 11 (R211). -/
def surplusCapacityField : Descriptor :=
  ⟨11, "surplus_capacity", .u16, Config.maskNone, 0, 2, .once, .none⟩

/-- Descriptor 12 (R212). -/
def nominalCapacityField : Descriptor :=
  ⟨12, "nominal_capacity", .u16, Config.maskNone, 0, 2, .once, .none⟩

/-- Descriptor 13 (R213). -/
def batteriesTemperatureNumberField : Descriptor :=
  ⟨13, "batteries_temperature_number", .u8, Config.maskNone, 0, 0, .once, .tn⟩

/-- Descriptor 14 (R214). -/
def cellTemperatureIField : Descriptor :=
  ⟨14, "cell_temperature_i", .u16, Config.mask15, Config.offTemp, 0, .countTN, .none⟩

/-- Descriptor 15 (R215). -/
def environmentalTemperatureField : Descriptor :=
  ⟨15, "environmental_temperature", .u16, Config.maskNone, Config.offTemp, 0, .once, .none⟩

/-- Descriptor 16 (R216). -/
def pcbTemperatureField : Descriptor :=
  ⟨16, "pcb_temperature", .u16, Config.maskNone, Config.offTemp, 0, .once, .none⟩

/-- Descriptor 17 (R217). -/
def maxTemperatureCellNumberField : Descriptor :=
  ⟨17, "max_temperature_cell_number", .u8, Config.maskNone, 0, 0, .once, .none⟩

/-- Descriptor 18 (R218). -/
def maxTemperatureCellValueField : Descriptor :=
  ⟨18, "max_temperature_cell_value", .u8, Config.mask15, Config.offTemp, 0, .once, .none⟩

/-- Descriptor 19 (R219). -/
def minTemperatureCellNumberField : Descriptor :=
  ⟨19, "min_temperature_cell_number", .u8, Config.maskNone, 0, 0, .once, .none⟩

/-- Descriptor 20 (R220). -/
def minTemperatureCellValueField : Descriptor :=
  ⟨20, "min_temperature_cell_value", .u8, Config.mask15, Config.offTemp, 0, .once, .none⟩

/-- Descriptor 21 (R221). -/
def fault1Field : Descriptor :=
  ⟨21, "fault1", .u8, Config.maskNone, 0, 0, .once, .none⟩

/-- Descriptor 22 (R222). -/
def fault2Field : Descriptor :=
  ⟨22, "fault2", .u8, Config.maskNone, 0, 0, .once, .none⟩

/-- Descriptor 23 (R223). -/
def alert1Field : Descriptor :=
  ⟨23, "alert1", .u8, Config.maskNone, 0, 0, .once, .none⟩

/-- Descriptor 24 (R224). -/
def alert2Field : Descriptor :=
  ⟨24, "alert2", .u8, Config.maskNone, 0, 0, .once, .none⟩

/-- Descriptor 25 (R225). -/
def alert3Field : Descriptor :=
  ⟨25, "alert3", .u8, Config.maskNone, 0, 0, .once, .none⟩

/-- Descriptor 26 (R226). -/
def alert4Field : Descriptor :=
  ⟨26, "alert4", .u8, Config.maskNone, 0, 0, .once, .none⟩

/-- Descriptor 27 (R227). -/
def cycleIndexField : Descriptor :=
  ⟨27, "cycle_index", .u16, Config.maskNone, 0, 0, .once, .none⟩

/-- Descriptor 28 (R228). -/
def totalVoltageField : Descriptor :=
  ⟨28, "total_voltage", .u16, Config.maskNone, 0, 2, .once, .none⟩

/-- Descriptor 29 (R229). -/
def statusField : Descriptor :=
  ⟨29, "status", .u8, Config.maskNone, 0, 0, .once, .none⟩

/-- Descriptor 30 (R230). -/
def totalChargingCapacityField : Descriptor :=
  ⟨30, "total_charging_capacity", .u16, Config.maskNone, 0, 0, .once, .none⟩

/-- Descriptor 31 (R231). -/
def totalDischargeCapacityField : Descriptor :=
  ⟨31, "total_discharge_capacity", .u16, Config.maskNone, 0, 0, .once, .none⟩

/-- Descriptor 32 (R232). -/
def totalRechargeTimeField : Descriptor :=
  ⟨32, "total_recharge_time", .u16, Config.maskNone, 0, 0, .once, .none⟩

/-- Descriptor 33 (R233). -/
def totalDischargeTimeField : Descriptor :=
  ⟨33, "total_discharge_time", .u16, Config.maskNone, 0, 0, .once, .none⟩

/-- Descriptor 34 (R234). -/
def batteryTypeField : Descriptor :=
  ⟨34, "battery_type", .u8, Config.maskNone, 0, 0, .once, .none⟩

/-- The descriptors in the order `FSQ` runs through them (R160). -/
def descriptorTable : List Descriptor :=
  [onlineStatusField, batteriesSeriesNumberField, cellIVoltageField, maxCellNumberField,
   maxCellVoltageField, minCellNumberField, minCellVoltageField, totalCurrentField, socField,
   sohField, actualCapacityField, surplusCapacityField, nominalCapacityField,
   batteriesTemperatureNumberField, cellTemperatureIField, environmentalTemperatureField,
   pcbTemperatureField, maxTemperatureCellNumberField, maxTemperatureCellValueField,
   minTemperatureCellNumberField, minTemperatureCellValueField, fault1Field, fault2Field,
   alert1Field, alert2Field, alert3Field, alert4Field, cycleIndexField, totalVoltageField,
   statusField, totalChargingCapacityField, totalDischargeCapacityField, totalRechargeTimeField,
   totalDischargeTimeField, batteryTypeField]

/-- `extract(d, raw)` (R169): mask, then subtract in the integers (R164, R165, R170), then attach the
exponent (R166). Total: no raw value is an error. -/
def extract (d : Descriptor) (raw : Word) : Int × BitVec 2 :=
  (((raw &&& d.mask).toNat : Int) - d.off, d.e)

/-- The number an entry stands for, exactly (R171). -/
def entryValue (x : Entry) : ℚ := (x.q : ℚ) / 10 ^ x.e.toNat

/-- The source's name of an entry: an array element carries its 1-based index in the middle or at the
end (R181). -/
def entryName (fid : BitVec 6) (idx : BitVec 8) : String :=
  if fid = 2 then "cell_" ++ Nat.repr idx.toNat ++ "_voltage"
  else if fid = 14 then "cell_temperature_" ++ Nat.repr idx.toNat
  else ((descriptorTable[fid.toNat]?).map Descriptor.name).getD ""

/-- The offset of field `fid`, element `i` from 1, in a payload whose counts are `n` and `tn`: the table of
30_encoding.md R83, with its `A` and `B`. -/
def fieldOffset (n tn : Nat) (fid i : Nat) : Nat :=
  let a := 2 + 2 * n
  let b := 21 + 2 * n + 2 * tn
  match fid, i with
  | 0, _ => 0
  | 1, _ => 1
  | 2, i => 2 + 2 * (i - 1)
  | 3, _ => a
  | 4, _ => a + 1
  | 5, _ => a + 3
  | 6, _ => a + 4
  | 7, _ => a + 6
  | 8, _ => a + 8
  | 9, _ => a + 10
  | 10, _ => a + 12
  | 11, _ => a + 14
  | 12, _ => a + 16
  | 13, _ => a + 18
  | 14, i => a + 19 + 2 * (i - 1)
  | 15, _ => b
  | 16, _ => b + 2
  | 17, _ => b + 4
  | 18, _ => b + 5
  | 19, _ => b + 6
  | 20, _ => b + 7
  | 21, _ => b + 8
  | 22, _ => b + 9
  | 23, _ => b + 10
  | 24, _ => b + 11
  | 25, _ => b + 12
  | 26, _ => b + 13
  | 27, _ => b + 14
  | 28, _ => b + 16
  | 29, _ => b + 18
  | 30, _ => b + 19
  | 31, _ => b + 21
  | 32, _ => b + 23
  | 33, _ => b + 25
  | 34, _ => b + 27
  | _, _ => b + 28

end Sys2Proof.Machine
end

