-- ==== Sys2Proof/Machine/Flags.lean ====
section
/-!
DEFINITION. The status groups `TX_*`, `RX_*`, `TD_*` (10_state.md R27, R32, R39, R40): clearing one, its
completion bit, and what taking a fault writes to it (60_exceptions.md R250, R254). The block keeps no
arithmetic flag (R40).
-/

namespace Sys2Proof.Machine

/-- The cause code of a fault (R250, the table of R41). -/
def faultCode : BlockFault → BitVec 2
  | .truncatedPayload _ _ _ => 1
  | .lengthOverflow _ => 2
  | .shortFrame _ => 3

/-- The start of an admitted `TX.BUILD` clears all three (R27). -/
def clearTxStatus (s : State) : State :=
  { s with tf := { s.tf with txDone := false, txErr := false, txCause := 0 } }

/-- The first byte of a frame clears all three (R32). -/
def clearRxStatus (s : State) : State :=
  { s with rd := { s.rd with rxDone := false, rxErr := false, rxCause := 0 } }

/-- The start of `TD.DECODE` clears all three (R39). -/
def clearTdStatus (s : State) : State :=
  { s with te := { s.te with tdValid := false, tdErr := false, tdCause := 0 } }

/-- `TX_DONE <- 1` (R27). -/
def setTxDone (s : State) : State := { s with tf := { s.tf with txDone := true } }

/-- `RX_DONE <- 1` (R32). -/
def setRxDone (s : State) : State := { s with rd := { s.rd with rxDone := true } }

/-- `TD_VALID <- 1` (R39). -/
def setTdValid (s : State) : State := { s with te := { s.te with tdValid := true } }

/-- What taking a fault records: the error bit of the fault's unit becomes 1 and its cause field the
fault's code; nothing else changes (R254 (2), (3), (5)). -/
def recordFault (f : BlockFault) (s : State) : State :=
  match f with
  | .truncatedPayload _ _ _ => { s with te := { s.te with tdErr := true, tdCause := faultCode f } }
  | .lengthOverflow _ => { s with tf := { s.tf with txErr := true, txCause := faultCode f } }
  | .shortFrame _ => { s with rd := { s.rd with rxErr := true, rxCause := faultCode f } }

end Sys2Proof.Machine
end

