-- ==== Sys2Proof/Machine/Ops.lean ====
section
/-!
DEFINITION. The operations every meaning is written with: the byte buffers (20_memory.md), the four ways
an operation ends (60_exceptions.md section 1) with the taking of a fault as one shared operation (R254),
and running operations one after the other.
-/

namespace Sys2Proof.Machine

/-! ## Byte buffers -/

/-- The canonical form: indices strictly rising. Every listed element has been written, and no other has,
so no entry equals what an unlisted index reads as (no value, R63). -/
abbrev Memory.wf (m : Memory) : Prop := m.Pairwise fun x y => x.1 < y.1

/-- Every listed index is an index of a buffer of `size` elements (R13). -/
abbrev Memory.within (size : Nat) (m : Memory) : Prop := ∀ c ∈ m, c.1 < size

/-- The value of one element; `none` if nothing has written it since reset (R63). -/
def memRead : Memory → Nat → Option Byte
  | [], _ => none
  | (k, b) :: m, i => if k = i then some b else memRead m i

/-- Write one element (R126, R149, R154). -/
def memWrite : Memory → Nat → Byte → Memory
  | [], i, b => [(i, b)]
  | (k, v) :: m, i, b =>
    if i < k then (i, b) :: (k, v) :: m
    else if i = k then (i, b) :: m
    else (k, v) :: memWrite m i b

/-- The `n` elements from index `i` on, or `none` if one of them was never written. -/
def memSpan (m : Memory) (i : Nat) : Nat → Option (List Byte)
  | 0 => some []
  | n + 1 =>
    match memRead m i, memSpan m (i + 1) n with
    | some b, some bs => some (b :: bs)
    | _, _ => none

/-! ## How an operation ends -/

/-- One operation's end, before it is reported to the host. -/
inductive Effect where
  /-- It completes in a state and returns a result. -/
  | done (s : State) (r : Result)
  /-- It raises a fault; the state is what it wrote before the `raise` (R254 (1), (4)). -/
  | raised (f : BlockFault) (s : State)
  /-- It is refused (R266). -/
  | refused (why : RefusalReason)
  /-- The model stops (`Fault`). -/
  | stopped (why : Fault)

/-- The result of an operation goes to the host (R295; the log of R255 and R266). -/
def answer (r : Result) (s : State) : State :=
  { s with host := { s.host with results := s.host.results ++ [r] } }

/-- TAKING A FAULT, the one shared operation (R254): the operation has ended, what it wrote stays, the
unit's error bit and cause are written, the fault with its information is the result. There is no
handler, saved state or mode to change, and nothing to return from (R254, R265). -/
def takeFault (f : BlockFault) (s : State) : State := answer (.fault f) (recordFault f s)

/-- Report an operation begun in state `s`. A refused one leaves `s` as it is but for the host's log
(R266); a fault disables nothing, so the run goes on from the state it left (R256). -/
def report (s : State) : Effect → Host.Outcome State Fault Refusal
  | .done t r => .next (answer r t)
  | .raised f t => .next (takeFault f t)
  | .refused why => .next (answer (.refused why) s)
  | .stopped why => .fault why

/-- Go on with `f` where the first part completed; a raise or a stop ends the operation (R254 (1)). -/
def Effect.andThen (e : Effect) (f : State → Effect) : Effect :=
  match e with
  | .done t _ => f t
  | .raised w t => .raised w t
  | .refused why => .refused why
  | .stopped why => .stopped why

/-! ## Sequences of operations -/

/-- Carry out operations one after the other, as the host issues them (R61, R92). A fault or a refusal
of one does not keep the next from being issued (R256, R266). -/
def runAll : List (State → Host.Outcome State Fault Refusal) → State → Host.Outcome State Fault Refusal
  | [], s => .next s
  | f :: fs, s =>
    match f s with
    | .next t => runAll fs t
    | .fault why => .fault why
    | .refused why => .refused why

end Sys2Proof.Machine
end

