-- ==== Sys2Proof/Machine/Extractor.lean ====
section
/-!
DEFINITION. The telemetry extractor: stages S1 to S5 and the sequencer (43_extract_pipeline.md sections 2
and 4), `TD.DECODE` and `TD.READ` (section 5), and the decode as a function of the payload (R176).
-/

namespace Sys2Proof.Machine

/-! ## The stages -/

/-- The bytes of a field in the shift register `SR` (R161, R162); `none` if one was never written. -/
def fetchRaw (w : FieldWidth) (m : Memory) (i : Nat) : Option Word :=
  match w with
  | .u8 => (memRead m i).map zext16
  | .u16 =>
    match memRead m i, memRead m (i + 1) with
    | some b0, some b1 => some (u16be b0 b1)
    | _, _ => none

/-- `CUR` is advanced once, by the field's width (R161, R162). -/
def moveCursor (w : FieldWidth) (s : State) : State :=
  { s with te := { s.te with cur := s.te.cur + BitVec.ofNat 11 w.bytes } }

/-- S5: a count field is latched (R167). -/
def latchCount (l : Latch) (sr : Word) (s : State) : State :=
  match l with
  | .none => s
  | .n => { s with te := { s.te with n := lo8 sr } }
  | .tn => { s with te := { s.te with tn := lo8 sr } }

/-- S5: one entry is appended to `SNAP` (R167). -/
def appendEntry (x : Entry) (s : State) : State :=
  { s with te := { s.te with snap := s.te.snap ++ [x], snapCnt := s.te.snapCnt + 1 } }

/-- The entry of a raw value: S2 to S4 (R164 to R166, R169). -/
def entryOf (d : Descriptor) (idx : BitVec 8) (sr : Word) : Entry :=
  { fid := d.fid, idx := idx, q := (extract d sr).1, e := (extract d sr).2 }

/-- S1 to S5 of one field (R160 to R167): the bounds check against `PL_LEN` (R163), the fetch, the
transform, the write back. -/
def runStages (d : Descriptor) (idx : BitVec 8) (s : State) : Effect :=
  if s.pl.plLen.toNat < s.te.cur.toNat + d.width.bytes then
    .raised (.truncatedPayload s.te.fsq s.te.li s.te.cur) s
  else
    match fetchRaw d.width s.pl.plbuf s.te.cur.toNat with
    | none => .stopped (.unwrittenElement .plbuf s.te.cur.toNat)
    | some sr =>
      if s.te.snapCnt.toNat < Config.snapMax then
        .done (appendEntry (entryOf d idx sr) (latchCount d.latch sr (moveCursor d.width s))) .ok
      else .stopped (.outsideSpace .snap s.te.snapCnt.toNat)

/-! ## The sequencer -/

/-- Write `LI` (R34). -/
def setLi (i : BitVec 8) (s : State) : State := { s with te := { s.te with li := i } }

/-- `FSQ <- FSQ + 1` (R33, R173). -/
def nextDescriptor (s : State) : State := { s with te := { s.te with fsq := s.te.fsq + 1 } }

/-- After S5 of an array element: the next element, or the next descriptor (R173). -/
def nextElement (count : BitVec 8) (s : State) : State :=
  if s.te.li.toNat < count.toNat then setLi (s.te.li + 1) s else nextDescriptor (setLi 0 s)

/-- An array descriptor reads its first element when `LI` is 0 (R177). -/
def enterArray (s : State) : State := if s.te.li = 0 then setLi 1 s else s

/-- One pass of an array descriptor: nothing but `FSQ` when the count is 0 (R174), else one element
(R173, R177). -/
def arrayPass (d : Descriptor) (count : BitVec 8) (s : State) : Effect :=
  if count = 0 then .done (nextDescriptor s) .ok
  else
    (runStages d (enterArray s).te.li (enterArray s)).andThen fun t => .done (nextElement count t) .ok

/-- One pass of the body of the loop of R177, for one descriptor. -/
def descriptorPass (d : Descriptor) (s : State) : Effect :=
  match d.rep with
  | .once => (runStages d 0 s).andThen fun t => .done (nextDescriptor t) .ok
  | .countN => arrayPass d s.te.n s
  | .countTN => arrayPass d s.te.tn s

/-! ## The operations -/

/-- The passes a descriptor takes from `LI = 0`: one for a scalar, one for an empty array, else one for
each element (R173, R174). -/
def passes (d : Descriptor) (s : State) : Nat :=
  match d.rep with
  | .once => 1
  | .countN => max 1 s.te.n.toNat
  | .countTN => max 1 s.te.tn.toNat

/-- `k` passes of one descriptor, ended by a raise. -/
def repeatPass (d : Descriptor) : Nat → State → Effect
  | 0, s => .done s .ok
  | k + 1, s => (descriptorPass d s).andThen (repeatPass d k)

/-- The descriptors in table order, each to its end (R160, R173, R176). -/
def runDescriptors : List Descriptor → State → Effect
  | [], s => .done s .ok
  | d :: ds, s => (repeatPass d (passes d s) s).andThen (runDescriptors ds)

/-- The start of `TD.DECODE`: the old snapshot is given up, the position and both latches are cleared
(R177). -/
def startDecode (s : State) : State :=
  let t := clearTdStatus s
  { t with te := { t.te with cur := 0, fsq := 0, li := 0, n := 0, tn := 0, snap := [], snapCnt := 0 } }

/-- `TD.DECODE` (R177, R178). -/
def tdDecodeEffect (s : State) : Effect :=
  (runDescriptors descriptorTable (startDecode s)).andThen fun t => .done (setTdValid t) .ok

/-- `TD.READ k` (R180). -/
def tdReadEffect (k : BitVec 16) (s : State) : Effect :=
  if s.te.tdValid = false then .refused .snapshotNotValid
  else if s.te.snapCnt.toNat ≤ k.toNat then .refused .indexRange
  else
    match s.te.snap[k.toNat]? with
    | some x => .done s (.entry x)
    | none => .stopped (.unwrittenElement .snap k.toNat)

/-- `TD.DECODE` (R177). -/
def execTdDecode (s : State) : Host.Outcome State Fault Refusal :=
  report s (tdDecodeEffect s)

/-- `TD.READ` (R180). -/
def execTdRead (k : BitVec 16) (s : State) : Host.Outcome State Fault Refusal :=
  report s (tdReadEffect k s)

/-! ## The decode as a function of the payload (R176) -/

/-- The variables of R176's pseudocode: cursor, both counts, and the snapshot so far. -/
structure Walk where
  cur  : Nat
  n    : Nat
  tn   : Nat
  snap : List Entry
deriving DecidableEq, Repr

/-- One field of R176: the bounds check, the raw value, the entry, the counts. `idx` is 0 for a scalar. -/
def walkField (p : List Byte) (d : Descriptor) (idx : Nat) (w : Walk) : Except BlockFault Walk :=
  if p.length < w.cur + d.width.bytes then
    .error (.truncatedPayload d.fid (BitVec.ofNat 8 idx) (BitVec.ofNat 11 w.cur))
  else
    let raw : Word := match d.width with
      | .u8 => zext16 (p.getD w.cur 0)
      | .u16 => u16be (p.getD w.cur 0) (p.getD (w.cur + 1) 0)
    .ok { cur := w.cur + d.width.bytes
          n := if d.fid = 1 then raw.toNat else w.n
          tn := if d.fid = 13 then raw.toNat else w.tn
          snap := w.snap ++ [entryOf d (BitVec.ofNat 8 idx) raw] }

/-- `k` elements of an array from element `li` on. -/
def walkElements (p : List Byte) (d : Descriptor) : Nat → Nat → Walk → Except BlockFault Walk
  | _, 0, w => .ok w
  | li, k + 1, w =>
    match walkField p d li w with
    | .ok v => walkElements p d (li + 1) k v
    | .error f => .error f

/-- The loop of R176 over the descriptors. -/
def walkDescriptors (p : List Byte) : List Descriptor → Walk → Except BlockFault Walk
  | [], w => .ok w
  | d :: ds, w =>
    let step := match d.rep with
      | .once => walkField p d 0 w
      | .countN => walkElements p d 1 w.n w
      | .countTN => walkElements p d 1 w.tn w
    match step with
    | .ok v => walkDescriptors p ds v
    | .error f => .error f

/-- `decode(P)` of R176, with the walk's counts and cursor beside the snapshot. -/
def decodeWalk (p : List Byte) : Except BlockFault Walk :=
  walkDescriptors p descriptorTable { cur := 0, n := 0, tn := 0, snap := [] }

end Sys2Proof.Machine
end

