-- ==== Sys2Proof/Machine/Fields.lean ====
section
/-!
DEFINITION. The 35 field descriptors as instructions (44_telemetry_fields.md R200 to R234): each is one pass of
the extractor's loop body for that descriptor (43_extract_pipeline.md R177), at the position the
registers `CUR` and `LI` hold (log 12). `TD.DECODE` runs the same passes.
-/

namespace Sys2Proof.Machine

/-- `online_status` (R200). -/
def execOnlineStatus (s : State) : Host.Outcome State Fault Refusal :=
  report s (descriptorPass onlineStatusField s)

/-- `batteries_series_number` (R201). -/
def execBatteriesSeriesNumber (s : State) : Host.Outcome State Fault Refusal :=
  report s (descriptorPass batteriesSeriesNumberField s)

/-- `cell_i_voltage` (R202). -/
def execCellIVoltage (s : State) : Host.Outcome State Fault Refusal :=
  report s (descriptorPass cellIVoltageField s)

/-- `max_cell_number` (R203). -/
def execMaxCellNumber (s : State) : Host.Outcome State Fault Refusal :=
  report s (descriptorPass maxCellNumberField s)

/-- `max_cell_voltage` (R204). -/
def execMaxCellVoltage (s : State) : Host.Outcome State Fault Refusal :=
  report s (descriptorPass maxCellVoltageField s)

/-- `min_cell_number` (R205). -/
def execMinCellNumber (s : State) : Host.Outcome State Fault Refusal :=
  report s (descriptorPass minCellNumberField s)

/-- `min_cell_voltage` (R206). -/
def execMinCellVoltage (s : State) : Host.Outcome State Fault Refusal :=
  report s (descriptorPass minCellVoltageField s)

/-- `total_current` (R207). -/
def execTotalCurrent (s : State) : Host.Outcome State Fault Refusal :=
  report s (descriptorPass totalCurrentField s)

/-- `soc` (R208). -/
def execSoc (s : State) : Host.Outcome State Fault Refusal :=
  report s (descriptorPass socField s)

/-- `soh` (R209). -/
def execSoh (s : State) : Host.Outcome State Fault Refusal :=
  report s (descriptorPass sohField s)

/-- `actual_capacity` (R210). -/
def execActualCapacity (s : State) : Host.Outcome State Fault Refusal :=
  report s (descriptorPass actualCapacityField s)

/-- `surplus_capacity` (R211). -/
def execSurplusCapacity (s : State) : Host.Outcome State Fault Refusal :=
  report s (descriptorPass surplusCapacityField s)

/-- `nominal_capacity` (R212). -/
def execNominalCapacity (s : State) : Host.Outcome State Fault Refusal :=
  report s (descriptorPass nominalCapacityField s)

/-- `batteries_temperature_number` (R213). -/
def execBatteriesTemperatureNumber (s : State) : Host.Outcome State Fault Refusal :=
  report s (descriptorPass batteriesTemperatureNumberField s)

/-- `cell_temperature_i` (R214). -/
def execCellTemperatureI (s : State) : Host.Outcome State Fault Refusal :=
  report s (descriptorPass cellTemperatureIField s)

/-- `environmental_temperature` (R215). -/
def execEnvironmentalTemperature (s : State) : Host.Outcome State Fault Refusal :=
  report s (descriptorPass environmentalTemperatureField s)

/-- `pcb_temperature` (R216). -/
def execPcbTemperature (s : State) : Host.Outcome State Fault Refusal :=
  report s (descriptorPass pcbTemperatureField s)

/-- `max_temperature_cell_number` (R217). -/
def execMaxTemperatureCellNumber (s : State) : Host.Outcome State Fault Refusal :=
  report s (descriptorPass maxTemperatureCellNumberField s)

/-- `max_temperature_cell_value` (R218). -/
def execMaxTemperatureCellValue (s : State) : Host.Outcome State Fault Refusal :=
  report s (descriptorPass maxTemperatureCellValueField s)

/-- `min_temperature_cell_number` (R219). -/
def execMinTemperatureCellNumber (s : State) : Host.Outcome State Fault Refusal :=
  report s (descriptorPass minTemperatureCellNumberField s)

/-- `min_temperature_cell_value` (R220). -/
def execMinTemperatureCellValue (s : State) : Host.Outcome State Fault Refusal :=
  report s (descriptorPass minTemperatureCellValueField s)

/-- `fault1` (R221). -/
def execFault1 (s : State) : Host.Outcome State Fault Refusal :=
  report s (descriptorPass fault1Field s)

/-- `fault2` (R222). -/
def execFault2 (s : State) : Host.Outcome State Fault Refusal :=
  report s (descriptorPass fault2Field s)

/-- `alert1` (R223). -/
def execAlert1 (s : State) : Host.Outcome State Fault Refusal :=
  report s (descriptorPass alert1Field s)

/-- `alert2` (R224). -/
def execAlert2 (s : State) : Host.Outcome State Fault Refusal :=
  report s (descriptorPass alert2Field s)

/-- `alert3` (R225). -/
def execAlert3 (s : State) : Host.Outcome State Fault Refusal :=
  report s (descriptorPass alert3Field s)

/-- `alert4` (R226). -/
def execAlert4 (s : State) : Host.Outcome State Fault Refusal :=
  report s (descriptorPass alert4Field s)

/-- `cycle_index` (R227). -/
def execCycleIndex (s : State) : Host.Outcome State Fault Refusal :=
  report s (descriptorPass cycleIndexField s)

/-- `total_voltage` (R228). -/
def execTotalVoltage (s : State) : Host.Outcome State Fault Refusal :=
  report s (descriptorPass totalVoltageField s)

/-- `status` (R229). -/
def execStatus (s : State) : Host.Outcome State Fault Refusal :=
  report s (descriptorPass statusField s)

/-- `total_charging_capacity` (R230). -/
def execTotalChargingCapacity (s : State) : Host.Outcome State Fault Refusal :=
  report s (descriptorPass totalChargingCapacityField s)

/-- `total_discharge_capacity` (R231). -/
def execTotalDischargeCapacity (s : State) : Host.Outcome State Fault Refusal :=
  report s (descriptorPass totalDischargeCapacityField s)

/-- `total_recharge_time` (R232). -/
def execTotalRechargeTime (s : State) : Host.Outcome State Fault Refusal :=
  report s (descriptorPass totalRechargeTimeField s)

/-- `total_discharge_time` (R233). -/
def execTotalDischargeTime (s : State) : Host.Outcome State Fault Refusal :=
  report s (descriptorPass totalDischargeTimeField s)

/-- `battery_type` (R234). -/
def execBatteryType (s : State) : Host.Outcome State Fault Refusal :=
  report s (descriptorPass batteryTypeField s)

end Sys2Proof.Machine
end

