-- ==== Sys2Proof/Machine/Deframer.lean ====
section
/-!
DEFINITION. The operations of the receive deframer and the direct loading of a payload (42_rx_deframer.md
sections 2 and 3). Nothing but lengths is looked at (R145).
-/

namespace Sys2Proof.Machine

/-- Write `RXS` (R28). -/
def setRxs (x : RxState) (s : State) : State := { s with rd := { s.rd with rxs := x } }

/-- Write `PL_LEN` (R30). -/
def setPlLen (n : BitVec 11) (s : State) : State := { s with pl := { s.pl with plLen := n } }

/-- Write one element of `PLBUF` (R30). -/
def setPlbuf (i : Nat) (b : Byte) (s : State) : State :=
  { s with pl := { s.pl with plbuf := memWrite s.pl.plbuf i b } }

/-- `RX_CNT`, `RX_L` and `RX_NEED` are cleared at the start of a frame (R29). -/
def clearRxCounts (s : State) : State :=
  { s with rd := { s.rd with rxCnt := 0, rxL := 0, rxNeed := 0 } }

/-- The start of a frame: the status is cleared and the old payload given up; the snapshot and the bytes
of `PLBUF` stay (R147). -/
def startFrame (s : State) : State :=
  setRxs .env (setPlLen 0 (clearRxCounts (clearRxStatus s)))

/-- An envelope byte is taken in: the byte at `RX_LEN_IDX` is latched, every other one dropped (R148). -/
def takeEnvelope (b : Byte) (s : State) : State :=
  { s with rd := { s.rd with
      rxL := if s.rd.rxCnt.toNat = Config.rxLenIdx then b else s.rd.rxL
      rxCnt := s.rd.rxCnt + 1 } }

/-- The end of the envelope with `RX_L >= 4`: the announced length is written, and an empty payload is
complete at once (R148). -/
def announcePayload (s : State) : State :=
  let need := s.rd.rxL - BitVec.ofNat 8 Config.rxLenAdj
  { s with rd := { s.rd with rxNeed := need, rxs := if need = 0 then .tail else .pay } }

/-- `RX.BYTE b` in `R_ENV` (R148). -/
def rxEnvelopeByte (b : Byte) (s : State) : Effect :=
  let t := takeEnvelope b s
  if t.rd.rxCnt.toNat = Config.rxSkip then
    if t.rd.rxL.toNat < Config.rxLenAdj then .raised (.shortFrame (t.rd.rxL.setWidth 9)) (setRxs .fault t)
    else .done (announcePayload t) .ok
  else .done t .ok

/-- A payload byte is stored: `PLBUF[PL_LEN]`, `PL_LEN`, `RX_CNT`, and the end of the payload (R149). -/
def storePayload (b : Byte) (s : State) : State :=
  let t := setPlLen (s.pl.plLen + 1) (setPlbuf s.pl.plLen.toNat b s)
  { t with rd := { t.rd with
      rxCnt := t.rd.rxCnt + 1
      rxs := if t.pl.plLen.toNat = t.rd.rxNeed.toNat then .tail else t.rd.rxs } }

/-- `RX.BYTE b` in `R_PAY` (R149). An index past `PLBUF` is no element (log 7). -/
def rxPayloadByte (b : Byte) (s : State) : Effect :=
  if s.pl.plLen.toNat < Config.plMax then .done (storePayload b s) .ok
  else .stopped (.outsideSpace .plbuf s.pl.plLen.toNat)

/-- `RX.BYTE b`, state by state (R147 to R151). -/
def rxByteEffect (b : Byte) (s : State) : Effect :=
  match s.rd.rxs with
  | .idle => rxEnvelopeByte b (startFrame s)
  | .env => rxEnvelopeByte b s
  | .pay => rxPayloadByte b s
  | .tail => .done s .ok
  | .fault => .done s .ok

/-- A frame that ended before its envelope and payload were complete (R152). -/
def endShort (s : State) : Effect :=
  .raised (.shortFrame s.rd.rxCnt) (setRxs .idle (setPlLen 0 s))

/-- `RX.END`, state by state (R152). -/
def rxEndEffect (s : State) : Effect :=
  match s.rd.rxs with
  | .tail => .done (setRxs .idle (setRxDone s)) .ok
  | .pay => endShort s
  | .env => endShort s
  | .fault => .done (setRxs .idle s) .ok
  | .idle => .raised (.shortFrame 0) (setPlLen 0 (clearRxCounts (clearRxStatus s)))

/-- `PL.WRITE i, b` (R154). -/
def plWriteEffect (i : BitVec 16) (b : Byte) (s : State) : Effect :=
  if s.rd.rxs ≠ .idle then .refused .frameInProgress
  else if plbufIndexOk i then .done (setPlbuf i.toNat b s) .ok
  else .refused .indexRange

/-- `PL.SETLEN n` (R155). -/
def plSetlenEffect (n : BitVec 16) (s : State) : Effect :=
  if s.rd.rxs ≠ .idle then .refused .frameInProgress
  else if plLenOk n then
    match memSpan s.pl.plbuf 0 n.toNat with
    | none => .refused .unwrittenRead
    | some _ => .done (setPlLen (n.setWidth 11) s) .ok
  else .refused .indexRange

/-- `RX.BYTE` (R147 to R151). -/
def execRxByte (b : Byte) (s : State) : Host.Outcome State Fault Refusal :=
  report s (rxByteEffect b s)

/-- `RX.END` (R152). -/
def execRxEnd (s : State) : Host.Outcome State Fault Refusal :=
  report s (rxEndEffect s)

/-- `PL.WRITE` (R154). -/
def execPlWrite (i : BitVec 16) (b : Byte) (s : State) : Host.Outcome State Fault Refusal :=
  report s (plWriteEffect i b s)

/-- `PL.SETLEN` (R155). -/
def execPlSetlen (n : BitVec 16) (s : State) : Host.Outcome State Fault Refusal :=
  report s (plSetlenEffect n s)

end Sys2Proof.Machine
end

