-- ==== Sys2Proof/Machine/Framer.lean ====
section
/-!
DEFINITION. The operations of the transmit framer (41_tx_framer.md section 2).
-/

namespace Sys2Proof.Machine

/-- Write one element of `PBUF` (R24). -/
def setPbuf (i : Nat) (b : Byte) (s : State) : State :=
  { s with tf := { s.tf with pbuf := memWrite s.tf.pbuf i b } }

/-- Append bytes to `TXOUT`, first byte first (R26, R124). -/
def emit (bytes : List Byte) (s : State) : State :=
  { s with tf := { s.tf with txout := s.tf.txout ++ bytes } }

/-- `TX.LOAD i, b` (R126). -/
def txLoadEffect (i : BitVec 16) (b : Byte) (s : State) : Effect :=
  if pbufIndexOk i then .done (setPbuf i.toNat b s) .ok else .refused .indexRange

/-- Emit a whole frame, or fault with nothing emitted (the second half of R127). The payload is `none` if
one of its bytes was never written. -/
def txBuildEffect (cmd : Word) (addr : Byte) (plen : BitVec 8) (s : State) : Effect :=
  if plenOk plen then
    match memSpan s.tf.pbuf 0 plen.toNat with
    | none => .refused .unwrittenRead
    | some payload => .done (setTxDone (emit (buildFrame cmd payload addr) (clearTxStatus s))) .ok
  else .raised (.lengthOverflow plen) (clearTxStatus s)

/-- `TX.LOAD` (R126). -/
def execTxLoad (i : BitVec 16) (b : Byte) (s : State) : Host.Outcome State Fault Refusal :=
  report s (txLoadEffect i b s)

/-- `TX.BUILD` (R127, R128). -/
def execTxBuild (cmd : Word) (addr : Byte) (plen : BitVec 8) (s : State) : Host.Outcome State Fault Refusal :=
  report s (txBuildEffect cmd addr plen s)

/-- `TX.READ1` is `TX.BUILD cmd=0x0001, addr=0x00, plen=0` (R129). -/
def execTxRead1 (s : State) : Host.Outcome State Fault Refusal :=
  report s (txBuildEffect Config.cmdRead1 0 0 s)

end Sys2Proof.Machine
end

