-- ==== Sys2Proof/Machine/Formats.lean ====
section
/-!
DEFINITION. The two frame formats taken as instructions (log 11): an outbound frame sent as one object, and a
notification received as one object. Each gives the host one result.
-/

namespace Sys2Proof.Machine

/-- The outbound frame of R74: `build_frame` of its fields appended to `TXOUT`, with the status of a
`TX.BUILD` that reads its payload from the instruction and not from `PBUF` (R120, R127); above `PMAX`
`LengthOverflow` with the length cut to the 8 bits of `plen` (R128). -/
def sendFrameEffect (cmd : Word) (addr : Byte) (ps : List Byte) (s : State) : Effect :=
  if ps.length ≤ Config.pmax then
    .done (setTxDone (emit (buildFrame cmd ps addr) (clearTxStatus s))) .ok
  else .raised (.lengthOverflow (BitVec.ofNat 8 ps.length)) (clearTxStatus s)

/-- The rest of a notification: each byte, then its end (R92). A fault at the sixth byte does not keep the
bytes after it from arriving, to be dropped (R151); it is the notification's result. -/
def deliver : List Byte → Option BlockFault → State → Effect
  | [], first, s =>
    match rxEndEffect s, first with
    | .done t _, some f => .raised f t
    | e, _ => e
  | b :: bs, first, s =>
    match rxByteEffect b s with
    | .done t _ => deliver bs first t
    | .raised f t => deliver bs (some f) (recordFault f t)
    | e => e

/-- `TXF`, an outbound frame (R74, R120 to R124). -/
def execTxf (cmd : Word) (addr : Byte) (ps : List Byte) (s : State) : Host.Outcome State Fault Refusal :=
  report s (sendFrameEffect cmd addr ps s)

/-- `RXF`, an inbound frame (R80, R140, R153). -/
def execRxf (fs : List Byte) (s : State) : Host.Outcome State Fault Refusal :=
  report s (deliver fs none s)

end Sys2Proof.Machine
end

