-- ==== Sys2Proof/Machine/Crc.lean ====
section
/-!
DEFINITION. The operations of the CRC unit (40_crc.md section 2). None faults and none is refused (R110).
-/

namespace Sys2Proof.Machine

/-- Write `ACC` (R21). -/
def setAcc (v : Word) (s : State) : State := { s with cu := { s.cu with acc := v } }

/-- `CRC.INIT` (R105). -/
def execCrcInit (s : State) : Host.Outcome State Fault Refusal :=
  report s (.done (setAcc Config.crcInit s) .ok)

/-- `CRC.BYTE b` (R106). -/
def execCrcByte (b : Byte) (s : State) : Host.Outcome State Fault Refusal :=
  report s (.done (setAcc (crcByte s.cu.acc b) s) .ok)

/-- `CRC.READ` (R107): returns `ACC` and changes nothing. -/
def execCrcRead (s : State) : Host.Outcome State Fault Refusal :=
  report s (.done s (.checksum s.cu.acc))

end Sys2Proof.Machine
end

