-- ==== Sys2Proof/Machine/Pseudo.lean ====
section
/-!
DEFINITION. The pseudo-operations: the fixed sequences of real operations of 30_encoding.md R92, carried out one
after the other, each with its own result (log 10). A list too long for the operand fields of the
expansion has no expansion (log 13).
-/

namespace Sys2Proof.Machine

/-- `TX.LOAD i, p0; TX.LOAD i+1, p1; ...` -/
def loadSequence : Nat → List Byte → List (State → Host.Outcome State Fault Refusal)
  | _, [] => []
  | i, b :: bs => execTxLoad (BitVec.ofNat 16 i) b :: loadSequence (i + 1) bs

/-- `PL.WRITE i, p0; PL.WRITE i+1, p1; ...` -/
def writeSequence : Nat → List Byte → List (State → Host.Outcome State Fault Refusal)
  | _, [] => []
  | i, b :: bs => execPlWrite (BitVec.ofNat 16 i) b :: writeSequence (i + 1) bs

/-- `PL.WRITE 0, p0; ...; PL.SETLEN k+1` (R156). -/
def plLoadSequence (ps : List Byte) : List (State → Host.Outcome State Fault Refusal) :=
  writeSequence 0 ps ++ [execPlSetlen (BitVec.ofNat 16 ps.length)]

/-- `CRC.BLOCK [b0 ... bk]` (R108). -/
def execCrcBlock (bs : List Byte) (s : State) : Host.Outcome State Fault Refusal :=
  runAll (execCrcInit :: (bs.map execCrcByte ++ [execCrcRead])) s

/-- `TX.PAYLOAD [p0 ... pk]` (R131). -/
def execTxPayload (ps : List Byte) (s : State) : Host.Outcome State Fault Refusal :=
  if ps.length ≤ 65536 then runAll (loadSequence 0 ps) s else .refused (.noExpansion "TX.PAYLOAD")

/-- `TX.FRAME cmd, addr, [p0 ... pk]` (R131). -/
def execTxFrame (cmd : Word) (addr : Byte) (ps : List Byte) (s : State) : Host.Outcome State Fault Refusal :=
  if ps.length ≤ 255 then
    runAll (loadSequence 0 ps ++ [execTxBuild cmd addr (BitVec.ofNat 8 ps.length)]) s
  else .refused (.noExpansion "TX.FRAME")

/-- `RX.FRAME [f0 ... fk]` (R92, R153). -/
def execRxFrame (fs : List Byte) (s : State) : Host.Outcome State Fault Refusal :=
  runAll (fs.map execRxByte ++ [execRxEnd]) s

/-- `PL.LOAD [p0 ... pk]` (R156). -/
def execPlLoad (ps : List Byte) (s : State) : Host.Outcome State Fault Refusal :=
  if ps.length ≤ 65535 then runAll (plLoadSequence ps) s else .refused (.noExpansion "PL.LOAD")

/-- `DECODE [p0 ... pk]` (R186). -/
def execDecodePayload (ps : List Byte) (s : State) : Host.Outcome State Fault Refusal :=
  if ps.length ≤ 65535 then runAll (plLoadSequence ps ++ [execTdDecode]) s
  else .refused (.noExpansion "DECODE")

end Sys2Proof.Machine
end

