-- ==== Sys2Proof/Machine/System.lean ====
section
/-!
DEFINITION. `SYS.RESET` (60_exceptions.md R270) and the reserved operation codes (30_encoding.md R72).
-/

namespace Sys2Proof.Machine

/-- Every piece of the block's state takes its reset value (R270, R281); the host's port is not the
block's state (logs 1 and 2). -/
def resetBlock (s : State) : State := { State.reset with host := s.host }

/-- `SYS.RESET` (R270). -/
def execSysReset (s : State) : Host.Outcome State Fault Refusal :=
  report s (.done (resetBlock s) .ok)

/-- Operation code `0x3` is reserved: refused with `ReservedOp`, nothing changes (R72). -/
def execReserved3 (s : State) : Host.Outcome State Fault Refusal :=
  report s (.refused .reservedOp)

/-- Operation code `0x6` is reserved: refused with `ReservedOp`, nothing changes (R72). -/
def execReserved6 (s : State) : Host.Outcome State Fault Refusal :=
  report s (.refused .reservedOp)

/-- Operation code `0x7` is reserved: refused with `ReservedOp`, nothing changes (R72). -/
def execReserved7 (s : State) : Host.Outcome State Fault Refusal :=
  report s (.refused .reservedOp)

/-- Operation code `0xE` is reserved: refused with `ReservedOp`, nothing changes (R72). -/
def execReservedE (s : State) : Host.Outcome State Fault Refusal :=
  report s (.refused .reservedOp)

end Sys2Proof.Machine
end

