-- ==== Sys2Proof/Machine/Dispatch.lean ====
section
/-!
DEFINITION. The meaning of every instruction: one arm per row of spec/opcode_table.json.
-/

namespace Sys2Proof.Machine

def exec (i : Instr) (s : State) : Host.Outcome State Fault Refusal :=
  match i with
  -- host operations (30_encoding.md R70)
  | .crcInit => Sys2Proof.Machine.execCrcInit s
  | .crcByte b => Sys2Proof.Machine.execCrcByte b s
  | .crcRead => Sys2Proof.Machine.execCrcRead s
  | .reserved3 => Sys2Proof.Machine.execReserved3 s
  | .txLoad idx b => Sys2Proof.Machine.execTxLoad idx b s
  | .txBuild cmd addr plen => Sys2Proof.Machine.execTxBuild cmd addr plen s
  | .reserved6 => Sys2Proof.Machine.execReserved6 s
  | .reserved7 => Sys2Proof.Machine.execReserved7 s
  | .rxByte b => Sys2Proof.Machine.execRxByte b s
  | .rxEnd => Sys2Proof.Machine.execRxEnd s
  | .plWrite idx b => Sys2Proof.Machine.execPlWrite idx b s
  | .plSetlen n => Sys2Proof.Machine.execPlSetlen n s
  | .tdDecode => Sys2Proof.Machine.execTdDecode s
  | .tdRead k => Sys2Proof.Machine.execTdRead k s
  | .reservedE => Sys2Proof.Machine.execReservedE s
  | .sysReset => Sys2Proof.Machine.execSysReset s
  | .txRead1 => Sys2Proof.Machine.execTxRead1 s
  -- pseudo-operations (R92)
  | .crcBlock bs => Sys2Proof.Machine.execCrcBlock bs s
  | .txPayload ps => Sys2Proof.Machine.execTxPayload ps s
  | .txFrame cmd addr ps => Sys2Proof.Machine.execTxFrame cmd addr ps s
  | .rxFrame fs => Sys2Proof.Machine.execRxFrame fs s
  | .plLoad ps => Sys2Proof.Machine.execPlLoad ps s
  | .decodePayload ps => Sys2Proof.Machine.execDecodePayload ps s
  -- frame formats (R74, R80)
  | .txf cmd addr ps => Sys2Proof.Machine.execTxf cmd addr ps s
  | .rxf fs => Sys2Proof.Machine.execRxf fs s
  -- field descriptors (44_telemetry_fields.md)
  | .onlineStatus => Sys2Proof.Machine.execOnlineStatus s
  | .batteriesSeriesNumber => Sys2Proof.Machine.execBatteriesSeriesNumber s
  | .cellIVoltage => Sys2Proof.Machine.execCellIVoltage s
  | .maxCellNumber => Sys2Proof.Machine.execMaxCellNumber s
  | .maxCellVoltage => Sys2Proof.Machine.execMaxCellVoltage s
  | .minCellNumber => Sys2Proof.Machine.execMinCellNumber s
  | .minCellVoltage => Sys2Proof.Machine.execMinCellVoltage s
  | .totalCurrent => Sys2Proof.Machine.execTotalCurrent s
  | .soc => Sys2Proof.Machine.execSoc s
  | .soh => Sys2Proof.Machine.execSoh s
  | .actualCapacity => Sys2Proof.Machine.execActualCapacity s
  | .surplusCapacity => Sys2Proof.Machine.execSurplusCapacity s
  | .nominalCapacity => Sys2Proof.Machine.execNominalCapacity s
  | .batteriesTemperatureNumber => Sys2Proof.Machine.execBatteriesTemperatureNumber s
  | .cellTemperatureI => Sys2Proof.Machine.execCellTemperatureI s
  | .environmentalTemperature => Sys2Proof.Machine.execEnvironmentalTemperature s
  | .pcbTemperature => Sys2Proof.Machine.execPcbTemperature s
  | .maxTemperatureCellNumber => Sys2Proof.Machine.execMaxTemperatureCellNumber s
  | .maxTemperatureCellValue => Sys2Proof.Machine.execMaxTemperatureCellValue s
  | .minTemperatureCellNumber => Sys2Proof.Machine.execMinTemperatureCellNumber s
  | .minTemperatureCellValue => Sys2Proof.Machine.execMinTemperatureCellValue s
  | .fault1 => Sys2Proof.Machine.execFault1 s
  | .fault2 => Sys2Proof.Machine.execFault2 s
  | .alert1 => Sys2Proof.Machine.execAlert1 s
  | .alert2 => Sys2Proof.Machine.execAlert2 s
  | .alert3 => Sys2Proof.Machine.execAlert3 s
  | .alert4 => Sys2Proof.Machine.execAlert4 s
  | .cycleIndex => Sys2Proof.Machine.execCycleIndex s
  | .totalVoltage => Sys2Proof.Machine.execTotalVoltage s
  | .status => Sys2Proof.Machine.execStatus s
  | .totalChargingCapacity => Sys2Proof.Machine.execTotalChargingCapacity s
  | .totalDischargeCapacity => Sys2Proof.Machine.execTotalDischargeCapacity s
  | .totalRechargeTime => Sys2Proof.Machine.execTotalRechargeTime s
  | .totalDischargeTime => Sys2Proof.Machine.execTotalDischargeTime s
  | .batteryType => Sys2Proof.Machine.execBatteryType s

end Sys2Proof.Machine
end

