-- ==== Sys2Proof/Machine/Step.lean ====
section
/-!
DEFINITION. One step of the machine: the host issues its next operation and the block carries it to its end
(00_scope.md R5). There is no program counter: the next operation is the first of the host's list
(log 1).
-/

namespace Sys2Proof.Machine

/-- Take the first pending command word off the host's list and carry its operation out. With nothing
pending the host issues no further operation, and the state stays as it is (R268, R295; log 3). -/
def step (s : State) : Host.Outcome State Fault Refusal :=
  match s.host.pending with
  | [] => .next s
  | cw :: rest => exec (decodeWord cw) { s with host := { s.host with pending := rest } }

/-- The instruction whose bits are `w` becomes the operation the host issues next, before any that is
pending. The one word of an instruction has 36 bits (R70), whatever `nbits` the table gives (log 14). -/
def State.withFetchWord (s : State) (_nbits w : Nat) : State :=
  { s with host := { s.host with pending := BitVec.ofNat 36 w :: s.host.pending } }

end Sys2Proof.Machine
end

