-- ==== Sys2Proof/Safety.lean ====
section
/-!
DEFINITION. What counts as a good state and a safe run, in the terms the claims use: the invariants of
10_state.md R45, made inductive with what the operation rules leave in each state of the deframer, and
"every operation in every state either completes, faults or is refused" (93_implementation_defined.md I25),
which for the model means that no step stops.
-/

namespace Sys2Proof.Machine

/-- A status group of R45: the completion bit and the error bit are not both 1, and the cause field is the
unit's code exactly when the error bit is 1. -/
def statusOk (done err : Bool) (cause code : BitVec 2) : Prop :=
  ¬(done = true ∧ err = true) ∧ cause = if err then code else 0

/-- What holds of the deframer and `PL_LEN` in each state of `RXS` (R28, R29, R45, R147 to R152). -/
def deframerOk (rd : ReceiveDeframer) (plLen : BitVec 11) : Prop :=
  match rd.rxs with
  | .idle => True
  | .env => 1 ≤ rd.rxCnt.toNat ∧ rd.rxCnt.toNat ≤ 5 ∧ rd.rxNeed = 0 ∧ plLen = 0 ∧
      rd.rxDone = false ∧ rd.rxErr = false
  | .pay => 4 ≤ rd.rxL.toNat ∧ rd.rxNeed.toNat = rd.rxL.toNat - 4 ∧ plLen.toNat < rd.rxNeed.toNat ∧
      rd.rxCnt.toNat = 6 + plLen.toNat ∧ rd.rxDone = false ∧ rd.rxErr = false
  | .tail => 4 ≤ rd.rxL.toNat ∧ rd.rxNeed.toNat = rd.rxL.toNat - 4 ∧ plLen.toNat = rd.rxNeed.toNat ∧
      rd.rxCnt.toNat = 6 + rd.rxNeed.toNat ∧ rd.rxDone = false ∧ rd.rxErr = false
  | .fault => rd.rxL.toNat < 4 ∧ rd.rxNeed = 0 ∧ rd.rxCnt = 6 ∧ plLen = 0 ∧
      rd.rxDone = false ∧ rd.rxErr = true

/-- An entry a descriptor can produce (R37, R168). -/
def entryOk (x : Entry) : Prop :=
  x.fid.toNat ≤ 34 ∧ -30000 ≤ x.q ∧ x.q ≤ 65535 ∧ (x.e = 0 ∨ x.e = 2 ∨ x.e = 3)

/-- What holds of a valid snapshot's position registers (R45). -/
def snapshotOk (te : TelemetryExtractor) : Prop :=
  te.tdValid = true →
    te.fsq = 35 ∧ te.li = 0 ∧ te.cur.toNat = Config.fixBytes + 2 * te.n.toNat + 2 * te.tn.toNat ∧
      te.snapCnt.toNat = Config.nFix + te.n.toNat + te.tn.toNat

/-- The invariant of the machine: R45, and the canonical form and bounds of the buffers. It says nothing
of `ACC`, of `TXOUT` or of the host's port, which may hold anything. -/
structure Inv (s : State) : Prop where
  pbuf_wf : Memory.wf s.tf.pbuf
  pbuf_within : Memory.within Config.pmax s.tf.pbuf
  plbuf_wf : Memory.wf s.pl.plbuf
  plbuf_within : Memory.within Config.plMax s.pl.plbuf
  plLen_le : s.pl.plLen.toNat ≤ Config.plMax
  payload_written : (memSpan s.pl.plbuf 0 s.pl.plLen.toNat).isSome
  tx_status : statusOk s.tf.txDone s.tf.txErr s.tf.txCause 2
  rx_status : statusOk s.rd.rxDone s.rd.rxErr s.rd.rxCause 3
  td_status : statusOk s.te.tdValid s.te.tdErr s.te.tdCause 1
  deframer : deframerOk s.rd s.pl.plLen
  snap_count : s.te.snapCnt.toNat = s.te.snap.length
  snap_le : s.te.snap.length ≤ Config.snapMax
  entries : ∀ x ∈ s.te.snap, entryOk x
  fsq_le : s.te.fsq.toNat ≤ 35
  snapshot : snapshotOk s.te

/-- A step that does not stop. -/
def Runs (o : Host.Outcome State Fault Refusal) : Prop := ∃ t, o = .next t

/-- A run of `k` steps that does not stop. -/
def SafeFor (k : Nat) (s : State) : Prop := Runs (Host.Core.run Sys2Proof.core k s)

end Sys2Proof.Machine
end

