-- ==== Sys2Proof/Certificates/Slice0/Obligations.lean ====
section
/-!
DEFINITION. The statements for the provers, in the order of the spec's files. Numbers of the spec stand in
them as numbers, so that a statement does not lean on the constant it checks. `answer r s` is the
state `s` with the result `r` given to the host and nothing else changed. A rule the spec marks "derived" is
its own inference: a docstring that rests on one says so.
-/

open Sys2Proof Sys2Proof.Machine

namespace Sys2Proof.Claims

/-- The operand bits R70 gives the operations, with the operation code itself. -/
def usedBits (op : BitVec 4) : CommandWord :=
  match op.toNat with
  | 0x1 | 0x8 => 0xF0000FF00
  | 0x4 | 0xA => 0xFFFFFFF00
  | 0x5 => 0xFFFFFFFFF
  | 0xB | 0xD => 0xFFFFF0000
  | _ => 0xF00000000

/-- The host's list with the words of some operations put in front. -/
def issue (is : List Instr) (s : State) : State :=
  { s with host := { s.host with pending := is.filterMap encodeWord ++ s.host.pending } }

/-- `TX.LOAD 0, p0; ...; TX.LOAD k, pk` (R92). -/
def loads (ps : List Byte) : List Instr := ps.zipIdx.map fun (b, i) => .txLoad (BitVec.ofNat 16 i) b

/-- `PL.WRITE 0, p0; ...; PL.WRITE k, pk` (R92). -/
def writes (ps : List Byte) : List Instr := ps.zipIdx.map fun (b, i) => .plWrite (BitVec.ofNat 16 i) b

/-- The refusal R267 names for an operation in a state, in the order its rule checks. -/
def refusalOf (i : Instr) (s : State) : Option RefusalReason :=
  match i with
  | .reserved3 | .reserved6 | .reserved7 | .reservedE => some .reservedOp
  | .txLoad i _ => if 249 < i.toNat then some .indexRange else none
  | .txBuild _ _ plen =>
    if plen.toNat ≤ 250 ∧ ∃ j, j < plen.toNat ∧ memRead s.tf.pbuf j = none then some .unwrittenRead else none
  | .plWrite i _ =>
    if s.rd.rxs ≠ .idle then some .frameInProgress
    else if 1068 < i.toNat then some .indexRange else none
  | .plSetlen n =>
    if s.rd.rxs ≠ .idle then some .frameInProgress
    else if 1069 < n.toNat then some .indexRange
    else if ∃ j, j < n.toNat ∧ memRead s.pl.plbuf j = none then some .unwrittenRead else none
  | .tdRead k =>
    if s.te.tdValid = false then some .snapshotNotValid
    else if s.te.snapCnt.toNat ≤ k.toNat then some .indexRange else none
  | _ => none

/-- The one-byte scalars with no latch: instruction, `fid`, offset (44_telemetry_fields.md section 1). -/
def byteScalars : List (Instr × BitVec 6 × Int) :=
  [(.onlineStatus, 0, 0), (.maxCellNumber, 3, 0), (.minCellNumber, 5, 0),
   (.maxTemperatureCellNumber, 17, 0), (.maxTemperatureCellValue, 18, 50),
   (.minTemperatureCellNumber, 19, 0), (.minTemperatureCellValue, 20, 50), (.fault1, 21, 0),
   (.fault2, 22, 0), (.alert1, 23, 0), (.alert2, 24, 0), (.alert3, 25, 0), (.alert4, 26, 0),
   (.status, 29, 0), (.batteryType, 34, 0)]

/-- The two-byte scalars: instruction, `fid`, offset, exponent (44_telemetry_fields.md section 1). -/
def wordScalars : List (Instr × BitVec 6 × Int × BitVec 2) :=
  [(.maxCellVoltage, 4, 0, 3), (.minCellVoltage, 6, 0, 3), (.totalCurrent, 7, 30000, 2),
   (.soc, 8, 0, 2), (.soh, 9, 0, 2), (.actualCapacity, 10, 0, 2), (.surplusCapacity, 11, 0, 2),
   (.nominalCapacity, 12, 0, 2), (.environmentalTemperature, 15, 50, 0), (.pcbTemperature, 16, 50, 0),
   (.cycleIndex, 27, 0, 0), (.totalVoltage, 28, 0, 2), (.totalChargingCapacity, 30, 0, 0),
   (.totalDischargeCapacity, 31, 0, 0), (.totalRechargeTime, 32, 0, 0), (.totalDischargeTime, 33, 0, 0)]

/-- The element an array descriptor reads: `LI`, or 1 when `LI` is 0 (R177). -/
def element (s : State) : BitVec 8 := if s.te.li = 0 then 1 else s.te.li

/-- The state after one element of an array whose count is `count` (R167, R173). -/
def afterElement (count : BitVec 8) (x : Entry) (s : State) : State :=
  { s with te := { s.te with
      cur := s.te.cur + 2, snap := s.te.snap ++ [x], snapCnt := s.te.snapCnt + 1
      li := if element s < count then element s + 1 else 0
      fsq := if element s < count then s.te.fsq else s.te.fsq + 1 } }

/-- The state after a field whose bytes run past `PL_LEN`, with the fault taken (R163, R254). -/
def afterTruncated (li : BitVec 8) (s : State) : State :=
  answer (.fault (.truncatedPayload s.te.fsq li s.te.cur))
    { s with te := { s.te with li := li, tdErr := true, tdCause := 1 } }

/-- The extractor after a decode that finished (R177, R35, R37). -/
def decoded (w : Walk) : TelemetryExtractor where
  cur := BitVec.ofNat 11 w.cur
  fsq := 35
  li := 0
  n := BitVec.ofNat 8 w.n
  tn := BitVec.ofNat 8 w.tn
  snap := w.snap
  snapCnt := BitVec.ofNat 10 w.snap.length
  tdValid := true
  tdErr := false
  tdCause := 0

/-- Everything but the host's port. -/
def SameBlock (s t : State) : Prop :=
  t.cu = s.cu ∧ t.tf = s.tf ∧ t.rd = s.rd ∧ t.pl = s.pl ∧ t.te = s.te

/-- Byte `k` of a payload as the snapshot keeps it: without bit 15 of the entries of the two arrays, whose
high bytes are at even offsets from 2 and odd offsets from `21 + 2*n` (R83, R88). -/
def keptByte (p : List Byte) (n tn k : Nat) : Byte :=
  if (2 ≤ k ∧ k < 2 + 2 * n ∧ k % 2 = 0) ∨ (21 + 2 * n ≤ k ∧ k < 21 + 2 * n + 2 * tn ∧ k % 2 = 1) then
    p.getD k 0 &&& 0x7F
  else p.getD k 0

/-- The place of a scalar's entry in a valid snapshot (R181). -/
def scalarPlace (n tn fid : Nat) : Nat :=
  if fid < 2 then fid else if fid < 14 then 2 + n + (fid - 3) else 13 + n + tn + (fid - 15)

/-- The raw value of a field at an offset of a payload (R52, R53). -/
def rawAt (p : List Byte) (w : FieldWidth) (off : Nat) : Nat :=
  match w with
  | .u8 => (p.getD off 0).toNat
  | .u16 => 256 * (p.getD off 0).toNat + (p.getD (off + 1) 0).toNat

/-- The entries appended before field `fid`, element `li`, is read: the place its own entry would take. -/
def entriesBefore (n tn fid li : Nat) : Nat :=
  if fid = 2 then 1 + li else if fid = 14 then 12 + n + li else scalarPlace n tn fid

/-- What a decode of `p` that faulted at `FSQ`, `LI` keeps (R178): the counts latched before that field (0 where
none was), the offset of its first byte (R83), and the entries of the fields before it, each from the
bytes at its offset. -/
def KeptBeforeFault (p : List Byte) (te : TelemetryExtractor) : Prop :=
  let n := te.n.toNat
  let tn := te.tn.toNat
  let fid := te.fsq.toNat
  let li := te.li.toNat
  te.n = (if 1 < fid then p.getD 1 0 else 0) ∧
  te.tn = (if 13 < fid then p.getD (20 + 2 * n) 0 else 0) ∧
  te.cur.toNat = fieldOffset n tn fid li ∧
  te.snap.length = entriesBefore n tn fid li ∧
  (∀ (k : Nat) (d : Descriptor), k < fid → descriptorTable[k]? = some d → k ≠ 2 → k ≠ 14 →
    te.snap[scalarPlace n tn k]? =
      some (entryOf d 0 (BitVec.ofNat 16 (rawAt p d.width (fieldOffset n tn k 1))))) ∧
  (∀ i, 1 ≤ i → (if fid = 2 then i < li else 2 < fid ∧ i ≤ n) → te.snap[1 + i]? =
    some (entryOf cellIVoltageField (BitVec.ofNat 8 i) (BitVec.ofNat 16 (rawAt p .u16 (fieldOffset n tn 2 i))))) ∧
  ∀ i, 1 ≤ i → (if fid = 14 then i < li else 14 < fid ∧ i ≤ tn) → te.snap[12 + n + i]? =
    some (entryOf cellTemperatureIField (BitVec.ofNat 8 i)
      (BitVec.ofNat 16 (rawAt p .u16 (fieldOffset n tn 14 i))))

/-- A row of the table of R168: a kind of descriptor, and the ends of its `q`. -/
structure RangeKind where
  width    : FieldWidth
  mask     : Word
  off      : Nat
  e        : BitVec 2
  least    : Int
  greatest : Int
deriving DecidableEq, Repr

/-- A descriptor is of the kind. -/
abbrev RangeKind.describes (k : RangeKind) (d : Descriptor) : Prop :=
  d.width = k.width ∧ d.mask = k.mask ∧ d.off = k.off ∧ d.e = k.e

/-- The table of R168, row by row. -/
def rangeKinds : List RangeKind :=
  [⟨.u8, 0xFFFF, 0, 0, 0, 255⟩, ⟨.u16, 0xFFFF, 0, 0, 0, 65535⟩, ⟨.u16, 0x7FFF, 0, 3, 0, 32767⟩,
   ⟨.u16, 0xFFFF, 0, 3, 0, 65535⟩, ⟨.u16, 0xFFFF, 0, 2, 0, 65535⟩, ⟨.u16, 0xFFFF, 30000, 2, -30000, 35535⟩,
   ⟨.u16, 0x7FFF, 50, 0, -50, 32717⟩, ⟨.u16, 0xFFFF, 50, 0, -50, 65485⟩, ⟨.u8, 0x7FFF, 50, 0, -50, 205⟩]

/-- A raw value a field of the width can have: a one-byte field is at most 255 (R161). -/
abbrev fitsWidth (w : FieldWidth) (raw : Word) : Prop := w = .u8 → raw.toNat ≤ 255

end Sys2Proof.Claims

open Sys2Proof.Claims

/-! ## Encoding (30_encoding.md) -/

/-- Every instruction that has an encoding of its own is read back from it, with every operand (R70, R74,
R80, R85). -/
def Obligations.DecodeOfEncodeIsTheInstruction : Prop :=
  ∀ i : Instr, i.wellFormed = true → i.format ≠ .pseudo → decode (encode i) = .ok i

/-- No used bit of a command word is dropped: encoding what a word decodes to gives the word back with
its unused operand bits zero (R70, R73). -/
def Obligations.EncodeOfDecodeKeepsUsedBits : Prop :=
  ∀ w : CommandWord, encodeWord (decodeWord w) = some (w &&& usedBits (cwOp w))

/-- R73: words that differ only in unused operand fields behave the same. -/
def Obligations.UnusedOperandFieldsAreIgnored : Prop :=
  ∀ (w v : CommandWord) (rest : List CommandWord) (s : State),
    w &&& usedBits (cwOp w) = v &&& usedBits (cwOp v) →
      decodeWord w = decodeWord v ∧
      step { s with host := { s.host with pending := w :: rest } } =
        step { s with host := { s.host with pending := v :: rest } }

/-- R72: a reserved operation code, with any operand bits, is refused with `ReservedOp`: nothing of the
block changes, nothing is returned, and the next word is taken. -/
def Obligations.ReservedCodesAreRefused : Prop :=
  (∀ (w : CommandWord) (rest : List CommandWord) (s : State),
    (cwOp w = 0x3 ∨ cwOp w = 0x6 ∨ cwOp w = 0x7 ∨ cwOp w = 0xE) →
      step { s with host := { s.host with pending := w :: rest } } =
        .next (answer (.refused .reservedOp) { s with host := { s.host with pending := rest } })) ∧
  ∀ s : State,
    exec .reserved3 s = .next (answer (.refused .reservedOp) s) ∧
    exec .reserved6 s = .next (answer (.refused .reservedOp) s) ∧
    exec .reserved7 s = .next (answer (.refused .reservedOp) s) ∧
    exec .reservedE s = .next (answer (.refused .reservedOp) s)

/-- Words of the programs P1 to P5 of 95_test_vectors.md decode to the operations printed beside them. -/
def Obligations.PrintedWordsDecode : Prop :=
  decodeWord 0x000000000 = .crcInit ∧ decodeWord 0x100000500 = .crcByte 0x05 ∧
  decodeWord 0x200000000 = .crcRead ∧ decodeWord 0x40001BB00 = .txLoad 1 0xBB ∧
  decodeWord 0x512340102 = .txBuild 0x1234 0x01 2 ∧ decodeWord 0x500010000 = .txRead1 ∧
  decodeWord 0x80000A700 = .rxByte 0xA7 ∧ decodeWord 0x900000000 = .rxEnd ∧
  decodeWord 0xA00160100 = .plWrite 0x16 0x01 ∧ decodeWord 0xB00350000 = .plSetlen 53 ∧
  decodeWord 0xC00000000 = .tdDecode ∧ decodeWord 0xD00250000 = .tdRead 37

/-- R92, row by row: issuing the expansion's command words and stepping through them gives what the
pseudo-operation gives at once, results and stops included; a list too long for the operand fields of R70
has no expansion, and the pseudo-operation stops by name. (That a pseudo-operation is also one instruction
of the model, and that stop, are the MODEL's choices: logs 10 and 13.) -/
def Obligations.PseudoOperationsAreTheirExpansions : Prop :=
  ∀ (s : State) (cmd : Word) (addr : Byte) (bs : List Byte),
    Host.Core.run core (bs.length + 2) (issue (.crcInit :: (bs.map .crcByte ++ [.crcRead])) s) =
      exec (.crcBlock bs) s ∧
    (bs.length ≤ 65536 → Host.Core.run core bs.length (issue (loads bs) s) = exec (.txPayload bs) s) ∧
    (bs.length ≤ 255 →
      Host.Core.run core (bs.length + 1)
        (issue (loads bs ++ [.txBuild cmd addr (BitVec.ofNat 8 bs.length)]) s) =
      exec (.txFrame cmd addr bs) s) ∧
    Host.Core.run core 1 (issue [.txBuild 0x0001 0x00 0] s) = exec .txRead1 s ∧
    Host.Core.run core (bs.length + 1) (issue (bs.map .rxByte ++ [.rxEnd]) s) = exec (.rxFrame bs) s ∧
    (bs.length ≤ 65535 →
      Host.Core.run core (bs.length + 1)
        (issue (writes bs ++ [.plSetlen (BitVec.ofNat 16 bs.length)]) s) =
      exec (.plLoad bs) s) ∧
    (bs.length ≤ 65535 →
      Host.Core.run core (bs.length + 2)
        (issue (writes bs ++ [.plSetlen (BitVec.ofNat 16 bs.length), .tdDecode]) s) =
      exec (.decodePayload bs) s) ∧
    (65536 < bs.length → exec (.txPayload bs) s = .refused (.noExpansion "TX.PAYLOAD")) ∧
    (255 < bs.length → exec (.txFrame cmd addr bs) s = .refused (.noExpansion "TX.FRAME")) ∧
    (65535 < bs.length →
      exec (.plLoad bs) s = .refused (.noExpansion "PL.LOAD") ∧
      exec (.decodePayload bs) s = .refused (.noExpansion "DECODE"))

/-! ## The step (00_scope.md R5; logs 1 and 3) -/

/-- A step takes the first pending word off the host's list and carries out the operation it decodes to;
with none pending the state stays as it is; `withFetchWord` makes a word, whatever bit count goes with it,
the one the next step takes. (The MODEL's choices: that the words stand in a list, log 1; that a step with
none pending is a next state, log 3; that the bit count is not looked at, log 14.) -/
def Obligations.StepRunsTheDecodedWord : Prop :=
  (∀ (cw : CommandWord) (rest : List CommandWord) (s : State), s.host.pending = cw :: rest →
    step s = exec (decodeWord cw) { s with host := { s.host with pending := rest } }) ∧
  (∀ s : State, s.host.pending = [] → step s = .next s) ∧
  (∀ (s : State) (nbits w : Nat), step (s.withFetchWord nbits w) = exec (decodeWord (BitVec.ofNat 36 w)) s)

/-! ## The CRC unit (40_crc.md) -/

/-- R100: `crc_bit` tests bit 0 before a logical shift right by one, and feeds back `0xA001`. -/
def Obligations.CrcBitShiftsAndFeedsBack : Prop :=
  (∀ a : Word, crcBit a = if a.getLsbD 0 = true then (a >>> 1) ^^^ 0xA001 else a >>> 1) ∧
  (∀ (a : Word) (k : Nat), k < 15 → (a >>> 1).getLsbD k = a.getLsbD (k + 1)) ∧
  (∀ a : Word, (a >>> 1).getLsbD 15 = false) ∧
  crcBit 0x0000 = 0x0000 ∧ crcBit 0x0001 = 0xA001 ∧ crcBit 0xFFFF = 0xDFFE ∧ crcBit 0xFFFE = 0x7FFF ∧
  crcBit 0x40BA = 0x205D

/-- R101: the byte is combined once into bits 7 to 0, then exactly eight iterations follow. -/
def Obligations.CrcByteIsEightIterations : Prop :=
  (∀ (a : Word) (b : Byte),
    crcByte a b =
      crcBit (crcBit (crcBit (crcBit (crcBit (crcBit (crcBit (crcBit (a ^^^ b.setWidth 16))))))))) ∧
  crcByte 0x0000 0x00 = 0x0000 ∧ crcByte 0xFFFF 0xFF = 0x00FF ∧ crcByte 0x00FF 0xFF = 0x0000 ∧
  (List.range 9).map (fun k => crcSteps k (0xFFFF ^^^ zext16 0x00)) =
    [0xFFFF, 0xDFFE, 0x6FFF, 0x97FE, 0x4BFF, 0x85FE, 0x42FF, 0x817E, 0x40BF]

/-- R102 and R103: the checksum starts at `0xFFFF`, takes the bytes first to last, and is the final
accumulator. -/
def Obligations.ChecksumFoldsTheBytesInOrder : Prop :=
  crc16 [] = 0xFFFF ∧
  (∀ (bs : List Byte) (b : Byte), crc16 (bs ++ [b]) = crcByte (crc16 bs) b) ∧
  (List.range 6).map (fun k => crc16 (([0x00, 0x05, 0x00, 0x00, 0x01] : List Byte).take k)) =
    [0xFFFF, 0x40BF, 0xB3C1, 0x9072, 0x2510, 0x0CE5]

/-- R105, R106, R107: what the three operations of the CRC unit do to `ACC` and return; nothing else of
the state changes, and none of them faults or is refused in any state. -/
def Obligations.CrcOperationsActOnAccAlone : Prop :=
  (∀ w : CommandWord, (cwOp w = 0x0 → decodeWord w = .crcInit) ∧
    (cwOp w = 0x1 → decodeWord w = .crcByte (cwB w)) ∧ (cwOp w = 0x2 → decodeWord w = .crcRead)) ∧
  (∀ (s : State) (b : Byte),
    exec .crcInit s = .next (answer .ok { s with cu := { acc := 0xFFFF } }) ∧
    exec (.crcByte b) s = .next (answer .ok { s with cu := { acc := crcByte s.cu.acc b } }) ∧
    exec .crcRead s = .next (answer (.checksum s.cu.acc) s)) ∧
  State.reset.cu.acc = 0xFFFF ∧ crcByte 0x40BF 0x05 = 0xB3C1

/-- `CRC.BLOCK` returns the checksum of its bytes from any state, leaves it in `ACC`, and changes nothing
else. (R108 is the spec's inference from R102 and R105 to R107; as one instruction: log 10.) -/
def Obligations.CrcBlockReturnsTheChecksum : Prop :=
  (∀ (bs : List Byte) (s : State),
    exec (.crcBlock bs) s = .next { s with
      cu := { acc := crc16 bs }
      host := { s.host with results :=
        s.host.results ++ List.replicate (bs.length + 1) .ok ++ [.checksum (crc16 bs)] } }) ∧
  crc16 [0x01, 0x05, 0x00, 0x00, 0x01] = 0xCCD8

/-- `crc_bit` is the shift register with feedback into bits 15, 13 and 0, and a byte is loaded into bits 7 to 0
before eight shifts. (R109 is the spec's inference from R100 and R101.) -/
def Obligations.CrcBitIsTheShiftRegister : Prop :=
  ∀ a : Word,
    crcBit a = crcShift a ∧
    (crcBit a).getLsbD 15 = a.getLsbD 0 ∧
    (crcBit a).getLsbD 13 = (a.getLsbD 14 ^^ a.getLsbD 0) ∧
    (crcBit a).getLsbD 0 = (a.getLsbD 1 ^^ a.getLsbD 0) ∧
    (∀ k, k < 15 → k ≠ 13 → k ≠ 0 → (crcBit a).getLsbD k = a.getLsbD (k + 1)) ∧
    ∀ b : Byte, crcByte a b = crcShift^[8] (a ^^^ b.setWidth 16)

/-- The checksum is incremental and linear, a step never merges two accumulators, and the checksum appended
low byte first brings it to zero (high byte first, for `READ1`, to `0x1E8E`). (R111 is the spec's
inference from R100 to R102.) -/
def Obligations.ChecksumAlgebra : Prop :=
  (∀ bs cs : List Byte, crc16 (bs ++ cs) = cs.foldl crcByte (crc16 bs)) ∧
  (∀ x y : Word, crcBit (x ^^^ y) = crcBit x ^^^ crcBit y) ∧
  (∀ (a1 a2 : Word) (b1 b2 : Byte), crcByte (a1 ^^^ a2) (b1 ^^^ b2) = crcByte a1 b1 ^^^ crcByte a2 b2) ∧
  Function.Bijective crcBit ∧
  (∀ b : Byte, Function.Bijective fun a => crcByte a b) ∧
  (∀ bs : List Byte, crc16 (bs ++ [lo8 (crc16 bs), hi8 (crc16 bs)]) = 0x0000) ∧
  crc16 [0x00, 0x05, 0x00, 0x00, 0x01, 0x0C, 0xE5] = 0x1E8E

/-! ## The transmit framer (41_tx_framer.md) -/

/-- R120 with `N_RSV = 1` (R7): the bytes of an outbound frame. -/
def Obligations.BuildFrameLayout : Prop :=
  ∀ (cmd : Word) (addr : Byte) (p : List Byte), p.length ≤ 250 →
    ∀ body, body = [addr, BitVec.ofNat 8 (5 + p.length), 0x00, hi8 cmd, lo8 cmd] ++ p →
      buildFrame cmd p addr = [0x7A] ++ body ++ [hi8 (crc16 body), lo8 (crc16 body)] ++ [0xA7] ∧
      (buildFrame cmd p addr).length = 9 + p.length

/-- R125: the length byte is `5 + plen`, the frame is `9 + plen` bytes long; from 9 bytes to 259 bytes
with length byte `0xFF`. -/
def Obligations.FrameLengthLaws : Prop :=
  ∀ (cmd : Word) (addr : Byte) (p : List Byte), p.length ≤ 250 →
    (buildFrame cmd p addr).length = 9 + p.length ∧
    ((buildFrame cmd p addr)[2]?).map BitVec.toNat = some (5 + p.length) ∧
    (p.length = 250 → (buildFrame cmd p addr).length = 259 ∧ (buildFrame cmd p addr)[2]? = some 0xFF)

/-- R126: `TX.LOAD` writes one element of `PBUF` and nothing else; an index above 249 is refused. -/
def Obligations.TxLoadWritesOneElement : Prop :=
  (∀ w : CommandWord, cwOp w = 0x4 → decodeWord w = .txLoad (cwA w) (cwB w)) ∧
  ∀ (i : BitVec 16) (b : Byte) (s : State),
    (i.toNat ≤ 249 → ∃ m : Memory,
      exec (.txLoad i b) s = .next (answer .ok { s with tf := { s.tf with pbuf := m } }) ∧
      memRead m i.toNat = some b ∧ ∀ j, j ≠ i.toNat → memRead m j = memRead s.tf.pbuf j) ∧
    (249 < i.toNat → exec (.txLoad i b) s = .next (answer (.refused .indexRange) s))

/-- R127, R128: `TX.BUILD` appends the frame of the first `plen` elements of `PBUF`, or is refused for an
unwritten one, or faults above `PMAX` with nothing emitted; the status fields are its own and nothing
else changes. -/
def Obligations.TxBuildEmitsOneFrame : Prop :=
  (∀ (w : CommandWord) (s : State), cwOp w = 0x5 →
    exec (decodeWord w) s = exec (.txBuild (cwA w) (cwB w) (cwC w)) s) ∧
  ∀ (cmd : Word) (addr : Byte) (plen : BitVec 8) (s : State),
    (∀ p : List Byte, plen.toNat ≤ 250 → p.length = plen.toNat →
      (∀ j, j < plen.toNat → memRead s.tf.pbuf j = p[j]?) →
      exec (.txBuild cmd addr plen) s = .next (answer .ok { s with tf := { s.tf with
        txout := s.tf.txout ++ buildFrame cmd p addr, txDone := true, txErr := false, txCause := 0 } })) ∧
    (∀ j, plen.toNat ≤ 250 → j < plen.toNat → memRead s.tf.pbuf j = none →
      exec (.txBuild cmd addr plen) s = .next (answer (.refused .unwrittenRead) s)) ∧
    (250 < plen.toNat →
      exec (.txBuild cmd addr plen) s = .next (answer (.fault (.lengthOverflow plen)) { s with
        tf := { s.tf with txDone := false, txErr := true, txCause := 2 } }))

/-- `TX.READ1` is `TX.BUILD cmd=1, addr=0, plen=0`, in every state, and appends nine bytes. (R129; its two
checksum bytes are the spec's inference from R120 and R102. That the one word has an instruction of its
own is the MODEL's choice: log 9.) -/
def Obligations.TxRead1EmitsNineBytes : Prop :=
  decodeWord 0x500010000 = .txRead1 ∧
  ∀ s : State,
    exec .txRead1 s = exec (.txBuild 0x0001 0x00 0) s ∧
    exec .txRead1 s = .next (answer .ok { s with tf := { s.tf with
      txout := s.tf.txout ++ [0x7A, 0x00, 0x05, 0x00, 0x00, 0x01, 0x0C, 0xE5, 0xA7]
      txDone := true, txErr := false, txCause := 0 } })

/-- `TX.PAYLOAD` loads its bytes from index 0 on, and `TX.FRAME` then appends their frame whatever
`PBUF` held before; every other element of `PBUF` and every other unit is as before. (R131 is the
spec's inference from R126 and R127; as one instruction: log 10.) -/
def Obligations.TxPayloadAndFrame : Prop :=
  ∀ (cmd : Word) (addr : Byte) (ps : List Byte) (s : State), ps.length ≤ 250 → ∃ m : Memory,
    (∀ j, memRead m j = if j < ps.length then ps[j]? else memRead s.tf.pbuf j) ∧
    exec (.txPayload ps) s = .next { s with
      tf := { s.tf with pbuf := m }
      host := { s.host with results := s.host.results ++ List.replicate ps.length .ok } } ∧
    exec (.txFrame cmd addr ps) s = .next { s with
      tf := { pbuf := m, txout := s.tf.txout ++ buildFrame cmd ps addr,
              txDone := true, txErr := false, txCause := 0 }
      host := { s.host with results := s.host.results ++ List.replicate (ps.length + 1) .ok } }

/-- The framer's position-by-position sequence, from any values of its transient registers, emits the bytes
that assemble, patch, checksum and emit give. (R132 is the spec's inference from R120 to R124.) -/
def Obligations.FramerSequenceEmitsTheFrame : Prop :=
  ∀ (cmd : Word) (addr : Byte) (p : List Byte) (r : FramerRun), p.length ≤ 250 →
    (framerSequence cmd p addr r).out = r.out ++ buildFrame cmd p addr

/-- The MODEL's reading of the row TXF as an instruction (log 11): the frame of its fields is appended
to `TXOUT`, or `LengthOverflow` is taken above 250 payload bytes. -/
def Obligations.OutboundFrameAsInstruction : Prop :=
  ∀ (cmd : Word) (addr : Byte) (ps : List Byte) (s : State),
    (ps.length ≤ 250 → exec (.txf cmd addr ps) s = .next (answer .ok { s with tf := { s.tf with
      txout := s.tf.txout ++ buildFrame cmd ps addr, txDone := true, txErr := false, txCause := 0 } })) ∧
    (250 < ps.length →
      exec (.txf cmd addr ps) s = .next (answer (.fault (.lengthOverflow (BitVec.ofNat 8 ps.length)))
        { s with tf := { s.tf with txDone := false, txErr := true, txCause := 2 } }))

/-! ## The receive deframer (42_rx_deframer.md) -/

/-- R140: which notifications are deframed, and to what. -/
def Obligations.DeframeSlices : Prop :=
  ∀ f : List Byte,
    (f.length < 6 → deframe f = none) ∧
    (∀ l, 6 ≤ f.length → f[2]? = some l → l.toNat < 4 → deframe f = none) ∧
    (∀ l, 6 ≤ f.length → f[2]? = some l → 4 ≤ l.toNat → f.length < l.toNat + 2 → deframe f = none) ∧
    (∀ l, 6 ≤ f.length → f[2]? = some l → 4 ≤ l.toNat → l.toNat + 2 ≤ f.length →
      ∃ p, deframe f = some p ∧ p.length = l.toNat - 4 ∧ ∀ k, k < l.toNat - 4 → p[k]? = f[6 + k]?)

/-- R147: in `R_IDLE` a byte starts a frame: status, counts and `PL_LEN` are cleared and it is taken as the
first envelope byte; `PLBUF` and the snapshot are not touched. -/
def Obligations.RxByteStartsAFrame : Prop :=
  (∀ w : CommandWord, cwOp w = 0x8 → decodeWord w = .rxByte (cwB w)) ∧
  ∀ (b : Byte) (s : State), s.rd.rxs = .idle →
    exec (.rxByte b) s = .next (answer .ok { s with
      rd := { rxs := .env, rxCnt := 1, rxL := 0, rxNeed := 0, rxDone := false, rxErr := false, rxCause := 0 }
      pl := { s.pl with plLen := 0 } })

/-- R148: in `R_ENV` a byte is counted, the one at index 2 latched; the sixth ends the envelope, with
`ShortFrame` below 4, an empty payload at 4, and a payload announced above. -/
def Obligations.RxByteTakesTheEnvelope : Prop :=
  ∀ (b l : Byte) (s : State), s.rd.rxs = .env → l = (if s.rd.rxCnt = 2 then b else s.rd.rxL) →
    (s.rd.rxCnt + 1 ≠ 6 →
      exec (.rxByte b) s = .next (answer .ok { s with rd := { s.rd with rxL := l, rxCnt := s.rd.rxCnt + 1 } })) ∧
    (s.rd.rxCnt = 5 → l.toNat < 4 →
      exec (.rxByte b) s = .next (answer (.fault (.shortFrame (l.setWidth 9))) { s with
        rd := { s.rd with rxL := l, rxCnt := 6, rxs := .fault, rxErr := true, rxCause := 3 } })) ∧
    (s.rd.rxCnt = 5 → l = 4 →
      exec (.rxByte b) s = .next (answer .ok { s with
        rd := { s.rd with rxL := l, rxCnt := 6, rxNeed := 0, rxs := .tail } })) ∧
    (s.rd.rxCnt = 5 → 4 < l.toNat →
      exec (.rxByte b) s = .next (answer .ok { s with
        rd := { s.rd with rxL := l, rxCnt := 6, rxNeed := l - 4, rxs := .pay } }))

/-- R149: in `R_PAY` a byte is stored at `PLBUF[PL_LEN]`, both counters advance, and the payload is complete
when `PL_LEN` reaches `RX_NEED`; for every `PL_LEN` that is an index of `PLBUF` (in a run it is below 251). -/
def Obligations.RxByteStoresThePayload : Prop :=
  ∀ (b : Byte) (s : State), s.rd.rxs = .pay → s.pl.plLen.toNat < 1069 → ∃ m : Memory,
    exec (.rxByte b) s = .next (answer .ok { s with
      rd := { s.rd with
        rxCnt := s.rd.rxCnt + 1
        rxs := if s.pl.plLen.toNat + 1 = s.rd.rxNeed.toNat then .tail else .pay }
      pl := { plbuf := m, plLen := s.pl.plLen + 1 } }) ∧
    memRead m s.pl.plLen.toNat = some b ∧
    ∀ j, j ≠ s.pl.plLen.toNat → memRead m j = memRead s.pl.plbuf j

/-- R150, R151: in `R_TAIL` and `R_FAULT` a byte is dropped and no state changes. -/
def Obligations.RxByteIsDropped : Prop :=
  ∀ (b : Byte) (s : State), (s.rd.rxs = .tail ∨ s.rd.rxs = .fault) →
    exec (.rxByte b) s = .next (answer .ok s)

/-- R152: `RX.END` in each of the five states. -/
def Obligations.RxEndByState : Prop :=
  (∀ w : CommandWord, cwOp w = 0x9 → decodeWord w = .rxEnd) ∧
  ∀ s : State,
    (s.rd.rxs = .tail →
      exec .rxEnd s = .next (answer .ok { s with rd := { s.rd with rxDone := true, rxs := .idle } })) ∧
    ((s.rd.rxs = .pay ∨ s.rd.rxs = .env) →
      exec .rxEnd s = .next (answer (.fault (.shortFrame s.rd.rxCnt)) { s with
        rd := { s.rd with rxErr := true, rxCause := 3, rxs := .idle }
        pl := { s.pl with plLen := 0 } })) ∧
    (s.rd.rxs = .fault → exec .rxEnd s = .next (answer .ok { s with rd := { s.rd with rxs := .idle } })) ∧
    (s.rd.rxs = .idle →
      exec .rxEnd s = .next (answer (.fault (.shortFrame 0)) { s with
        rd := { rxs := .idle, rxCnt := 0, rxL := 0, rxNeed := 0, rxDone := false, rxErr := true, rxCause := 3 }
        pl := { s.pl with plLen := 0 } }))

/-- Delivering a notification byte by byte from `R_IDLE` ends in `R_IDLE` with what `deframe` gives:
its payload in `PLBUF` and `RX_DONE`, or `ShortFrame` recorded and an empty payload. No unit but the
deframer and no element of `PLBUF` past the payload changes. (R153 is the spec's inference from R140
and R147 to R152; as one instruction: log 10.) -/
def Obligations.RxFrameAgreesWithDeframe : Prop :=
  ∀ (f : List Byte) (s : State), s.rd.rxs = .idle → ∃ t,
    exec (.rxFrame f) s = .next t ∧ t.rd.rxs = .idle ∧ t.cu = s.cu ∧ t.tf = s.tf ∧ t.te = s.te ∧
    match deframe f with
    | some p =>
      t.rd.rxDone = true ∧ t.rd.rxErr = false ∧ t.rd.rxCause = 0 ∧ t.pl.plLen.toNat = p.length ∧
      ∀ j, memRead t.pl.plbuf j = if j < p.length then p[j]? else memRead s.pl.plbuf j
    | none => t.rd.rxDone = false ∧ t.rd.rxErr = true ∧ t.rd.rxCause = 3 ∧ t.pl.plLen = 0

/-- The MODEL's reading of the row RXF as an instruction (log 11): from `R_IDLE` the block ends as after
`RX.FRAME` of the same bytes, with one result: ok where `deframe` gives a payload, else `ShortFrame`. -/
def Obligations.InboundFrameAsInstruction : Prop :=
  ∀ (f : List Byte) (s : State), s.rd.rxs = .idle → ∃ t u r,
    exec (.rxf f) s = .next t ∧ exec (.rxFrame f) s = .next u ∧ SameBlock u t ∧
    t.host = { s.host with results := s.host.results ++ [r] } ∧
    match deframe f with
    | some _ => r = .ok
    | none => ∃ info, r = .fault (.shortFrame info)

/-- R154: `PL.WRITE` writes one element of `PLBUF` and nothing else; refused while a frame is in progress,
then for an index above 1068. -/
def Obligations.PlWriteWritesOneElement : Prop :=
  (∀ w : CommandWord, cwOp w = 0xA → decodeWord w = .plWrite (cwA w) (cwB w)) ∧
  ∀ (i : BitVec 16) (b : Byte) (s : State),
    (s.rd.rxs = .idle → i.toNat ≤ 1068 → ∃ m : Memory,
      exec (.plWrite i b) s = .next (answer .ok { s with pl := { s.pl with plbuf := m } }) ∧
      memRead m i.toNat = some b ∧ ∀ j, j ≠ i.toNat → memRead m j = memRead s.pl.plbuf j) ∧
    (s.rd.rxs ≠ .idle → exec (.plWrite i b) s = .next (answer (.refused .frameInProgress) s)) ∧
    (s.rd.rxs = .idle → 1068 < i.toNat →
      exec (.plWrite i b) s = .next (answer (.refused .indexRange) s))

/-- R155: `PL.SETLEN n` sets `PL_LEN` and nothing else when the first `n` elements were written; refused
while a frame is in progress, then above 1069, then over an unwritten element. -/
def Obligations.PlSetlenSetsTheLength : Prop :=
  (∀ w : CommandWord, cwOp w = 0xB → decodeWord w = .plSetlen (cwA w)) ∧
  ∀ (n : BitVec 16) (s : State),
    (s.rd.rxs = .idle → n.toNat ≤ 1069 → (∀ j, j < n.toNat → memRead s.pl.plbuf j ≠ none) →
      exec (.plSetlen n) s =
        .next (answer .ok { s with pl := { s.pl with plLen := BitVec.ofNat 11 n.toNat } })) ∧
    (s.rd.rxs ≠ .idle → exec (.plSetlen n) s = .next (answer (.refused .frameInProgress) s)) ∧
    (s.rd.rxs = .idle → 1069 < n.toNat → exec (.plSetlen n) s = .next (answer (.refused .indexRange) s)) ∧
    (∀ j, s.rd.rxs = .idle → n.toNat ≤ 1069 → j < n.toNat → memRead s.pl.plbuf j = none →
      exec (.plSetlen n) s = .next (answer (.refused .unwrittenRead) s))

/-- `PL.LOAD` from `R_IDLE` always succeeds up to `PL_MAX` bytes: `PL_LEN` is the length, the first
elements are the bytes, every other element and unit is as before. (R156 is the spec's inference from
R154 and R155; as one instruction: log 10.) -/
def Obligations.PlLoadLoadsThePayload : Prop :=
  ∀ (ps : List Byte) (s : State), s.rd.rxs = .idle → ps.length ≤ 1069 → ∃ m : Memory,
    (∀ j, memRead m j = if j < ps.length then ps[j]? else memRead s.pl.plbuf j) ∧
    exec (.plLoad ps) s = .next { s with
      pl := { plbuf := m, plLen := BitVec.ofNat 11 ps.length }
      host := { s.host with results := s.host.results ++ List.replicate (ps.length + 1) .ok } }

/-! ## The telemetry extractor (43_extract_pipeline.md, 44_telemetry_fields.md) -/

/-- The least and the greatest `q` of each kind of descriptor: no raw value of its width goes past either end,
and each end is the `q` of some raw value. Every descriptor is of one of the nine kinds, and every kind
has one. (R168 is the spec's inference from R164 and R165.) -/
def Obligations.FieldValueRanges : Prop :=
  (∀ d ∈ descriptorTable, ∃ k ∈ rangeKinds, k.describes d) ∧
  (∀ k ∈ rangeKinds, ∃ d ∈ descriptorTable, k.describes d) ∧
  ∀ k ∈ rangeKinds, ∀ d ∈ descriptorTable, k.describes d →
    (∀ raw : Word, fitsWidth d.width raw → k.least ≤ (extract d raw).1 ∧ (extract d raw).1 ≤ k.greatest) ∧
    (∃ raw : Word, fitsWidth d.width raw ∧ (extract d raw).1 = k.least) ∧
    ∃ raw : Word, fitsWidth d.width raw ∧ (extract d raw).1 = k.greatest

/-- R161, R164 to R167, R173 for the fifteen one-byte scalars with no latch: the byte at `CUR`, less the
offset, becomes one entry; `CUR` and `FSQ` advance by one and nothing else changes. (As an instruction: log 12.) -/
def Obligations.OneByteScalarFields : Prop :=
  ∀ row ∈ byteScalars, ∀ (s : State) (b : Byte),
    s.te.cur.toNat + 1 ≤ s.pl.plLen.toNat → memRead s.pl.plbuf s.te.cur.toNat = some b →
    s.te.snapCnt.toNat < 543 →
    exec row.1 s = .next (answer .ok { s with te := { s.te with
      cur := s.te.cur + 1, fsq := s.te.fsq + 1, snapCnt := s.te.snapCnt + 1
      snap := s.te.snap ++ [{ fid := row.2.1, idx := 0, q := b.toNat - row.2.2, e := 0 }] } })

/-- R201, R213: the two count fields are entries like any other, and latch their raw byte into `N` or
`TN`. (As an instruction: log 12.) -/
def Obligations.CountFieldsLatch : Prop :=
  ∀ (s : State) (b : Byte),
    s.te.cur.toNat + 1 ≤ s.pl.plLen.toNat → memRead s.pl.plbuf s.te.cur.toNat = some b →
    s.te.snapCnt.toNat < 543 →
    exec .batteriesSeriesNumber s = .next (answer .ok { s with te := { s.te with
      cur := s.te.cur + 1, fsq := s.te.fsq + 1, snapCnt := s.te.snapCnt + 1, n := b
      snap := s.te.snap ++ [{ fid := 1, idx := 0, q := b.toNat, e := 0 }] } }) ∧
    exec .batteriesTemperatureNumber s = .next (answer .ok { s with te := { s.te with
      cur := s.te.cur + 1, fsq := s.te.fsq + 1, snapCnt := s.te.snapCnt + 1, tn := b
      snap := s.te.snap ++ [{ fid := 13, idx := 0, q := b.toNat, e := 0 }] } })

/-- R162, R164 to R167, R173 for the sixteen two-byte scalars: the two bytes at `CUR`, the first the more
significant, less the offset, with the exponent; bit 15 counts. (As an instruction: log 12.) -/
def Obligations.TwoByteScalarFields : Prop :=
  ∀ row ∈ wordScalars, ∀ (s : State) (b0 b1 : Byte),
    s.te.cur.toNat + 2 ≤ s.pl.plLen.toNat → memRead s.pl.plbuf s.te.cur.toNat = some b0 →
    memRead s.pl.plbuf (s.te.cur.toNat + 1) = some b1 → s.te.snapCnt.toNat < 543 →
    exec row.1 s = .next (answer .ok { s with te := { s.te with
      cur := s.te.cur + 2, fsq := s.te.fsq + 1, snapCnt := s.te.snapCnt + 1
      snap := s.te.snap ++
        [{ fid := row.2.1, idx := 0, q := 256 * b0.toNat + b1.toNat - row.2.2.1, e := row.2.2.2 }] } })

/-- R202, R214 with R173: one element of an array with a nonzero count. Bit 15 is stripped; the entry
carries the element's number; after the last element `LI` is 0 and `FSQ` moves on. (As an instruction:
log 12.) -/
def Obligations.ArrayElementFields : Prop :=
  ∀ (s : State) (b0 b1 : Byte),
    s.te.cur.toNat + 2 ≤ s.pl.plLen.toNat → memRead s.pl.plbuf s.te.cur.toNat = some b0 →
    memRead s.pl.plbuf (s.te.cur.toNat + 1) = some b1 → s.te.snapCnt.toNat < 543 →
    (s.te.n ≠ 0 → exec .cellIVoltage s = .next (answer .ok (afterElement s.te.n
      { fid := 2, idx := element s, q := ((256 * b0.toNat + b1.toNat) % 32768 : Nat), e := 3 } s))) ∧
    (s.te.tn ≠ 0 → exec .cellTemperatureI s = .next (answer .ok (afterElement s.te.tn
      { fid := 14, idx := element s, q := ((256 * b0.toNat + b1.toNat) % 32768 : Nat) - 50, e := 0 } s)))

/-- R174: an array descriptor whose count is 0 reads and appends nothing and leaves `CUR` and `LI`; `FSQ`
moves on at once, so with `n = 0` `max_cell_number` is at offset 2, and with `t_n = 0`
`environmental_temperature` follows the temperature count directly. (A descriptor as an instruction is the
MODEL's choice: log 12.) -/
def Obligations.EmptyArraysAreSkipped : Prop :=
  (∀ s : State,
    (s.te.n = 0 → exec .cellIVoltage s =
      .next (answer .ok { s with te := { s.te with fsq := s.te.fsq + 1 } })) ∧
    (s.te.tn = 0 → exec .cellTemperatureI s =
      .next (answer .ok { s with te := { s.te with fsq := s.te.fsq + 1 } }))) ∧
  ∀ (p : List Byte) (w : Walk), decodeWalk p = .ok w →
    (p.getD 1 0 = 0 → w.snap[2]? = some { fid := 3, idx := 0, q := (p.getD 2 0).toNat, e := 0 }) ∧
    (p.getD (20 + 2 * w.n) 0 = 0 → w.snap[12 + w.n]? = some { fid := 13, idx := 0, q := 0, e := 0 } ∧
      w.snap[13 + w.n]? = some { fid := 15, idx := 0, e := 0
                                 q := 256 * (p.getD (21 + 2 * w.n) 0).toNat + (p.getD (22 + 2 * w.n) 0).toNat - 50 })

/-- R163: every descriptor faults with `TruncatedPayload`, without reading a byte or moving `CUR`, when not
all its bytes are below `PL_LEN`. (A descriptor as an instruction is the MODEL's choice: log 12.) -/
def Obligations.TruncatedFieldsFault : Prop :=
  ∀ s : State,
    (∀ row ∈ byteScalars, s.pl.plLen.toNat < s.te.cur.toNat + 1 →
      exec row.1 s = .next (afterTruncated s.te.li s)) ∧
    (s.pl.plLen.toNat < s.te.cur.toNat + 1 →
      exec .batteriesSeriesNumber s = .next (afterTruncated s.te.li s) ∧
      exec .batteriesTemperatureNumber s = .next (afterTruncated s.te.li s)) ∧
    (∀ row ∈ wordScalars, s.pl.plLen.toNat < s.te.cur.toNat + 2 →
      exec row.1 s = .next (afterTruncated s.te.li s)) ∧
    (s.pl.plLen.toNat < s.te.cur.toNat + 2 → s.te.n ≠ 0 →
      exec .cellIVoltage s = .next (afterTruncated (element s) s)) ∧
    (s.pl.plLen.toNat < s.te.cur.toNat + 2 → s.te.tn ≠ 0 →
      exec .cellTemperatureI s = .next (afterTruncated (element s) s))

/-- R176, R177: `TD.DECODE` completes exactly where `decode` of the payload below `PL_LEN` returns, with its
list in `SNAP`, `FSQ = 35`, `LI = 0` and its cursor and counts; nothing of another unit, nor `PLBUF` or
`PL_LEN`, changes. -/
def Obligations.DecodeCompletesAsTheFunction : Prop :=
  ∀ (s : State) (p : List Byte) (w : Walk),
    memSpan s.pl.plbuf 0 s.pl.plLen.toNat = some p → decodeWalk p = .ok w →
    exec .tdDecode s = .next (answer .ok { s with te := decoded w })

/-- R178: where `decode` of the payload raises, so does `TD.DECODE`, with the same position: `TD_VALID` is 0,
`TD_ERR` and `TD_CAUSE` are 1, the position registers stay at the field that could not be read, `N`, `TN`
and the entries are what was latched and appended before it, no unit but the extractor changes, and no
entry can be read. (That a fault is a next state: log 4; that `SNAP` is a list: log 15.) -/
def Obligations.TruncationAbortsTheDecode : Prop :=
  ∀ (s : State) (p : List Byte) (f : BlockFault),
    memSpan s.pl.plbuf 0 s.pl.plLen.toNat = some p → decodeWalk p = .error f →
    ∃ te : TelemetryExtractor,
      exec .tdDecode s = .next (answer (.fault f) { s with te := te }) ∧
      f = .truncatedPayload te.fsq te.li te.cur ∧
      te.tdValid = false ∧ te.tdErr = true ∧ te.tdCause = 1 ∧ te.fsq.toNat < 35 ∧
      te.snapCnt.toNat = te.snap.length ∧ KeptBeforeFault p te ∧
      ∀ (k : BitVec 16) (t : State), t.te = te → exec (.tdRead k) t = .next (answer (.refused .snapshotNotValid) t)

/-- When `TD.DECODE` completes, in terms of the payload's length and its two count bytes; in every other
case it raises `TruncatedPayload`. (R183 is the spec's inference from R163 and R182.) -/
def Obligations.DecodeCompletesIffLongEnough : Prop :=
  ∀ (s : State) (p : List Byte) (n tn : Nat),
    memSpan s.pl.plbuf 0 s.pl.plLen.toNat = some p →
    n = (p.getD 1 0).toNat → tn = (p.getD (20 + 2 * n) 0).toNat →
    (2 ≤ p.length ∧ 21 + 2 * n ≤ p.length ∧ 49 + 2 * n + 2 * tn ≤ p.length →
      ∃ t, exec .tdDecode s = .next t ∧ t.te.tdValid = true ∧ t.te.cur.toNat = 49 + 2 * n + 2 * tn) ∧
    (¬(2 ≤ p.length ∧ 21 + 2 * n ≤ p.length ∧ 49 + 2 * n + 2 * tn ≤ p.length) →
      ∃ t fsq li cur, exec .tdDecode s = .next t ∧ t.te.tdValid = false ∧
        t.host.results = s.host.results ++ [.fault (.truncatedPayload fsq li cur)])

/-- In the snapshot of a completed decode every entry stands at its place and comes from the bytes at its
offset (R83); the counts, the cursor and the number of entries are those of the two count bytes. (R181
and R182 are the spec's inferences from R161, R162, R167 and R173.) -/
def Obligations.SnapshotLayout : Prop :=
  ∀ (p : List Byte) (w : Walk), decodeWalk p = .ok w → ∀ n tn : Nat,
    n = (p.getD 1 0).toNat → tn = (p.getD (20 + 2 * n) 0).toNat →
    w.n = n ∧ w.tn = tn ∧ w.cur = 49 + 2 * n + 2 * tn ∧ w.cur ≤ p.length ∧
    w.snap.length = 33 + n + tn ∧
    (∀ (fid : Nat) (d : Descriptor), descriptorTable[fid]? = some d → fid ≠ 2 → fid ≠ 14 →
      w.snap[scalarPlace n tn fid]? =
        some (entryOf d 0 (BitVec.ofNat 16 (rawAt p d.width (fieldOffset n tn fid 1))))) ∧
    (∀ i, 1 ≤ i → i ≤ n → w.snap[1 + i]? =
      some (entryOf cellIVoltageField (BitVec.ofNat 8 i) (BitVec.ofNat 16 (rawAt p .u16 (fieldOffset n tn 2 i))))) ∧
    (∀ i, 1 ≤ i → i ≤ tn → w.snap[12 + n + i]? =
      some (entryOf cellTemperatureIField (BitVec.ofNat 8 i)
        (BitVec.ofNat 16 (rawAt p .u16 (fieldOffset n tn 14 i)))))

/-- All names in one snapshot are distinct. (R181 is the spec's inference from R167 and R173.) -/
def Obligations.SnapshotNamesAreDistinct : Prop :=
  ∀ (p : List Byte) (w : Walk), decodeWalk p = .ok w → (w.snap.map fun x => entryName x.fid x.idx).Nodup

/-- Payloads that agree on the consumed bytes decode alike, whatever follows; payloads with the same
snapshot agree on every consumed byte but for bit 15 of the array entries. (R185 is the spec's inference
from R169 and R179.) -/
def Obligations.DecodeLosesOnlyTheFlagBits : Prop :=
  (∀ (p q : List Byte) (w : Walk), decodeWalk p = .ok w → q.take w.cur = p.take w.cur → decodeWalk q = .ok w) ∧
  ∀ (p q : List Byte) (v w : Walk), decodeWalk p = .ok v → decodeWalk q = .ok w → v.snap = w.snap →
    v.cur = w.cur ∧ ∀ k, k < v.cur → keptByte p v.n v.tn k = keptByte q v.n v.tn k

/-- R4 and R176 for the machine: what `TD.DECODE` leaves in the extractor depends on nothing but the
payload below `PL_LEN`: not on the extractor's old contents, the bytes above `PL_LEN` or another unit. -/
def Obligations.DecodeDependsOnThePayloadAlone : Prop :=
  ∀ (s t : State) (p : List Byte),
    memSpan s.pl.plbuf 0 s.pl.plLen.toNat = some p → memSpan t.pl.plbuf 0 t.pl.plLen.toNat = some p →
    ∃ te r, exec .tdDecode s = .next (answer r { s with te := te }) ∧
      exec .tdDecode t = .next (answer r { t with te := te })

/-- R180: `TD.READ k` returns entry `k` of a valid snapshot and changes nothing; refused without a valid
snapshot, then for `k >= SNAP_CNT`. -/
def Obligations.TdReadReturnsTheEntry : Prop :=
  (∀ w : CommandWord, cwOp w = 0xD → decodeWord w = .tdRead (cwA w)) ∧
  ∀ (k : BitVec 16) (s : State),
    (∀ x, s.te.tdValid = true → k.toNat < s.te.snapCnt.toNat → s.te.snap[k.toNat]? = some x →
      exec (.tdRead k) s = .next (answer (.entry x) s)) ∧
    (s.te.tdValid = false → exec (.tdRead k) s = .next (answer (.refused .snapshotNotValid) s)) ∧
    (s.te.tdValid = true → s.te.snapCnt.toNat ≤ k.toNat →
      exec (.tdRead k) s = .next (answer (.refused .indexRange) s))

/-- `DECODE` from `R_IDLE` loads its bytes and leaves the extractor as `decode` of them says. (R186 is the
spec's inference from R177 and R156; as one instruction: log 10.) -/
def Obligations.DecodePseudoDecodesItsBytes : Prop :=
  ∀ (ps : List Byte) (s : State), s.rd.rxs = .idle → ps.length ≤ 1069 → ∃ t,
    exec (.decodePayload ps) s = .next t ∧ t.cu = s.cu ∧ t.tf = s.tf ∧ t.rd = s.rd ∧
    t.pl.plLen.toNat = ps.length ∧ memSpan t.pl.plbuf 0 ps.length = some ps ∧
    match decodeWalk ps with
    | .ok w => t.te = decoded w ∧
        t.host.results = s.host.results ++ List.replicate (ps.length + 2) .ok
    | .error f => t.te.tdValid = false ∧ t.te.tdErr = true ∧ t.te.tdCause = 1 ∧
        t.host.results = s.host.results ++ List.replicate (ps.length + 1) .ok ++ [.fault f]

/-! ## Faults, refusals, reset (60_exceptions.md, 70_reset_and_hazards.md) -/

/-- R250: the three faults of the block: which operation of a command word raises each, what it records,
and that no state of another unit changes (R254 (2), (3), (5)), in every state of the invariant. -/
def Obligations.FaultsAreRecordedByTheirUnit : Prop :=
  ∀ (i : Instr) (s t : State) (f : BlockFault), i.format = .cw → Inv s → exec i s = .next t →
    t.host.results = s.host.results ++ [.fault f] →
    match f with
    | .truncatedPayload fsq li cur =>
      i = .tdDecode ∧ t.te.tdValid = false ∧ t.te.tdErr = true ∧ t.te.tdCause = 1 ∧
      t.te.fsq = fsq ∧ t.te.li = li ∧ t.te.cur = cur ∧
      t.cu = s.cu ∧ t.tf = s.tf ∧ t.rd = s.rd ∧ t.pl = s.pl
    | .lengthOverflow plen =>
      (∃ cmd addr, i = .txBuild cmd addr plen) ∧ 250 < plen.toNat ∧
      t.tf = { s.tf with txDone := false, txErr := true, txCause := 2 } ∧
      t.cu = s.cu ∧ t.rd = s.rd ∧ t.pl = s.pl ∧ t.te = s.te
    | .shortFrame _ =>
      (i = .rxEnd ∨ ∃ b, i = .rxByte b) ∧ t.rd.rxDone = false ∧ t.rd.rxErr = true ∧ t.rd.rxCause = 3 ∧
      t.pl.plLen = 0 ∧ t.pl.plbuf = s.pl.plbuf ∧ t.cu = s.cu ∧ t.tf = s.tf ∧ t.te = s.te

/-- A deframer fault leaves `PL_LEN = 0`, so `TD.DECODE` after it faults at `FSQ = 0`, `CUR = 0`; the
earlier snapshot stays until then. (R261 is the spec's inference from R144 and R177.) -/
def Obligations.DecodeAfterABadFrameFaults : Prop :=
  ∀ (i : Instr) (s t : State) (info : BitVec 9), (i = .rxEnd ∨ ∃ b, i = .rxByte b) → Inv s →
    exec i s = .next t → t.host.results = s.host.results ++ [.fault (.shortFrame info)] →
    t.te = s.te ∧ ∃ te : TelemetryExtractor,
      exec .tdDecode t = .next (answer (.fault (.truncatedPayload 0 0 0)) { t with te := te }) ∧
      te.fsq = 0 ∧ te.cur = 0 ∧ te.tdValid = false ∧ te.tdErr = true ∧ te.tdCause = 1

/-- R266, R267: the operations are refused exactly in the cases of the table of R267, with the reason its
rule checks first, and a refused operation leaves every piece of state as it was. -/
def Obligations.RefusalsAreThoseOfTheTable : Prop :=
  ∀ (i : Instr) (s : State), i.format ≠ .pseudo →
    match refusalOf i s with
    | some why => exec i s = .next (answer (.refused why) s)
    | none => ∀ t why, exec i s = .next t → t.host.results ≠ s.host.results ++ [.refused why]

/-- R270, R281: the state after reset, with every buffer element unwritten (R282), and `SYS.RESET`, which
gives every piece of the block's state that value in any state. (The host's list of operations and its
log are not state of the block: logs 1 and 2.) -/
def Obligations.ResetGivesTheResetValues : Prop :=
  (∀ w : CommandWord, cwOp w = 0xF → decodeWord w = .sysReset) ∧
  (∀ s : State, exec .sysReset s = .next (answer .ok {
    cu := { acc := 0xFFFF }
    tf := { pbuf := [], txout := [], txDone := false, txErr := false, txCause := 0 }
    rd := { rxs := .idle, rxCnt := 0, rxL := 0, rxNeed := 0, rxDone := false, rxErr := false, rxCause := 0 }
    pl := { plbuf := [], plLen := 0 }
    te := { cur := 0, fsq := 0, li := 0, n := 0, tn := 0, snap := [], snapCnt := 0
            tdValid := false, tdErr := false, tdCause := 0 }
    host := s.host })) ∧
  (∀ s : State, ∃ t, exec .sysReset s = .next t ∧ SameBlock State.reset t) ∧
  (∀ j, memRead State.reset.tf.pbuf j = none) ∧ ∀ j, memRead State.reset.pl.plbuf j = none

/-! ## Frames over all instructions -/

/-- Each unit's state is changed by its own operations and by reset only (R20 to R24, R30, R36, R50): `ACC` by
the CRC operations; the framer by `TX.*` and the frame it sends; the deframer by `RX.*`; the payload
buffer by `RX.*` and `PL.*`; the extractor by `TD.DECODE` and its descriptors. -/
def Obligations.UnitsDoNotDisturbEachOther : Prop :=
  ∀ (i : Instr) (s t : State), exec i s = .next t → i ≠ .sysReset →
    ((i ≠ .crcInit ∧ (∀ b, i ≠ .crcByte b) ∧ ∀ bs, i ≠ .crcBlock bs) → t.cu = s.cu) ∧
    (((∀ j b, i ≠ .txLoad j b) ∧ (∀ c a n, i ≠ .txBuild c a n) ∧ i ≠ .txRead1 ∧ (∀ ps, i ≠ .txPayload ps) ∧
      (∀ c a ps, i ≠ .txFrame c a ps) ∧ ∀ c a ps, i ≠ .txf c a ps) → t.tf = s.tf) ∧
    (((∀ b, i ≠ .rxByte b) ∧ i ≠ .rxEnd ∧ (∀ fs, i ≠ .rxFrame fs) ∧ ∀ fs, i ≠ .rxf fs) → t.rd = s.rd) ∧
    (((∀ b, i ≠ .rxByte b) ∧ i ≠ .rxEnd ∧ (∀ fs, i ≠ .rxFrame fs) ∧ (∀ fs, i ≠ .rxf fs) ∧
      (∀ j b, i ≠ .plWrite j b) ∧ (∀ n, i ≠ .plSetlen n) ∧ (∀ ps, i ≠ .plLoad ps) ∧
      ∀ ps, i ≠ .decodePayload ps) → t.pl = s.pl) ∧
    ((i.format ≠ .tpl ∧ i ≠ .tdDecode ∧ ∀ ps, i ≠ .decodePayload ps) → t.te = s.te)

/-- R26, R134: but for reset, no operation takes back or changes a byte that was emitted. -/
def Obligations.EmittedBytesStay : Prop :=
  ∀ (i : Instr) (s t : State), exec i s = .next t → i ≠ .sysReset → s.tf.txout <+: t.tf.txout

/-- The MODEL's host port (logs 1 and 2): no operation touches the pending list or takes back a result,
and an operation that is no pseudo-operation gives exactly one. -/
def Obligations.EveryOperationAnswersOnce : Prop :=
  ∀ (i : Instr) (s t : State), exec i s = .next t →
    t.host.pending = s.host.pending ∧ s.host.results <+: t.host.results ∧
    (i.format ≠ .pseudo → ∃ r, t.host.results = s.host.results ++ [r])

/-! ## Invariants and progress -/

/-- The invariant holds right after reset. -/
def Obligations.InvariantAtReset : Prop := Inv State.reset

/-- Every step from a state of the invariant ends in one: the buffers' canonical form and bounds, the
payload below `PL_LEN` written, the three status groups, the deframer's counters in each state, and the
valid snapshot's position. (R45 is the spec's inference; the canonical form and the clauses on `R_ENV` and
`R_FAULT` are the MODEL's.) -/
def Obligations.StepKeepsTheInvariant : Prop :=
  ∀ s t : State, Inv s → step s = .next t → Inv t

/-- The part of R45 (the spec's inference) on `CUR`: at the end of every `TD.DECODE`, completed or faulted, `CUR <= PL_LEN`. -/
def Obligations.CursorStaysInThePayload : Prop :=
  ∀ s t : State, Inv s → exec .tdDecode s = .next t → t.te.cur.toNat ≤ t.pl.plLen.toNat

/-- 93_implementation_defined.md I25 and R268: from a state of the invariant no step stops, whatever the
host issues, so every finite program of operations runs to its end (R299, the spec's inference). -/
def Obligations.NoOperationStops : Prop :=
  ∀ s : State, Inv s → Runs (step s) ∧ ∀ k, SafeFor k s
end

