-- ==== Sys2Proof/Laws/Memory.lean ====
section
/-!
SUPPORT. The laws of the byte buffers: read after write, the canonical form and the bounds kept, and
what a span of elements is.
-/

namespace Sys2Proof.Machine

@[simp] theorem memRead_nil (i : Nat) : memRead [] i = none := rfl

/-- A written element reads as what was written. -/
@[simp] theorem memRead_memWrite_same (m : Memory) (i : Nat) (b : Byte) : memRead (memWrite m i b) i = some b := by
  induction m with
  | nil => simp [memWrite, memRead]
  | cons c m ih =>
    obtain ⟨k, v⟩ := c
    simp only [memWrite]
    split
    · simp [memRead]
    · split
      · simp [memRead]
      · rw [memRead, if_neg (by omega), ih]

/-- A write leaves every other element as it was. -/
theorem memRead_memWrite_other (m : Memory) (i j : Nat) (b : Byte) (h : j ≠ i) :
    memRead (memWrite m i b) j = memRead m j := by
  induction m with
  | nil => simp [memWrite, memRead, Ne.symm h]
  | cons c m ih =>
    obtain ⟨k, v⟩ := c
    simp only [memWrite]
    split
    · simp [memRead, Ne.symm h]
    · split
      · next hik => subst hik; simp [memRead, Ne.symm h]
      · simp only [memRead, ih]

/-- Both laws at once. -/
theorem memRead_memWrite (m : Memory) (i j : Nat) (b : Byte) :
    memRead (memWrite m i b) j = if j = i then some b else memRead m j := by
  split
  · next h => rw [h, memRead_memWrite_same]
  · next h => exact memRead_memWrite_other m i j b h

/-- The indices listed after a write: those before it, and the one written. -/
theorem mem_memWrite {m : Memory} {i : Nat} {b : Byte} {c : Host.Cell} (h : c ∈ memWrite m i b) :
    c = (i, b) ∨ c ∈ m := by
  induction m with
  | nil => simpa [memWrite] using h
  | cons d m ih =>
    obtain ⟨k, v⟩ := d
    simp only [memWrite] at h
    split at h
    · simpa using h
    · split at h
      · simp only [List.mem_cons] at h ⊢; tauto
      · simp only [List.mem_cons] at h ⊢
        rcases h with h | h
        · exact .inr (.inl h)
        · rcases ih h with h | h
          · exact .inl h
          · exact .inr (.inr h)

/-- A write keeps the canonical form. -/
theorem memWrite_wf {m : Memory} (i : Nat) (b : Byte) (h : Memory.wf m) : Memory.wf (memWrite m i b) := by
  induction m with
  | nil => simp [memWrite, Memory.wf]
  | cons c m ih =>
    obtain ⟨k, v⟩ := c
    have ⟨hk, hm⟩ := List.pairwise_cons.mp h
    simp only [memWrite]
    split
    · next hik =>
      refine List.pairwise_cons.mpr ⟨?_, h⟩
      intro d hd
      rcases List.mem_cons.mp hd with rfl | hd
      · exact hik
      · exact Nat.lt_trans hik (hk d hd)
    · split
      · next hik => subst hik; exact List.pairwise_cons.mpr ⟨hk, hm⟩
      · refine List.pairwise_cons.mpr ⟨?_, ih hm⟩
        intro d hd
        rcases mem_memWrite hd with rfl | hd
        · show k < i; omega
        · exact hk d hd

/-- A write at an index of the buffer keeps its bounds. -/
theorem memWrite_within {m : Memory} {size i : Nat} (b : Byte) (hi : i < size) (h : Memory.within size m) :
    Memory.within size (memWrite m i b) := by
  intro c hc
  rcases mem_memWrite hc with rfl | hc
  · exact hi
  · exact h c hc

/-- An element below every listed index has no value. -/
theorem memRead_eq_none_of_lt {m : Memory} {i : Nat} (h : ∀ c ∈ m, i < c.1) : memRead m i = none := by
  induction m with
  | nil => rfl
  | cons c m ih =>
    obtain ⟨k, v⟩ := c
    have hk : i < k := h (k, v) (by simp)
    rw [memRead, if_neg (by omega), ih fun d hd => h d (by simp [hd])]

/-- Buffers in canonical form that read alike are the same list. -/
theorem memory_ext {m n : Memory} (hm : Memory.wf m) (hn : Memory.wf n)
    (h : ∀ i, memRead m i = memRead n i) : m = n := by
  induction m generalizing n with
  | nil =>
    cases n with
    | nil => rfl
    | cons c n => obtain ⟨k, v⟩ := c; simpa [memRead] using h k
  | cons c m ih =>
    obtain ⟨k, v⟩ := c
    have ⟨hk, hm'⟩ := List.pairwise_cons.mp hm
    cases n with
    | nil => simpa [memRead] using h k
    | cons d n =>
      obtain ⟨l, w⟩ := d
      have ⟨hl, hn'⟩ := List.pairwise_cons.mp hn
      have hkl : k = l := by
        rcases Nat.lt_trichotomy k l with hlt | heq | hgt
        · have h1 := h k
          rw [memRead, if_pos rfl, memRead, if_neg (by omega),
            memRead_eq_none_of_lt fun d hd => Nat.lt_trans hlt (hl d hd)] at h1
          simp at h1
        · exact heq
        · have h1 := h l
          rw [memRead, if_neg (by omega), memRead, if_pos rfl,
            memRead_eq_none_of_lt fun d hd => Nat.lt_trans hgt (hk d hd)] at h1
          simp at h1
      subst hkl
      have hvw : v = w := by simpa [memRead] using h k
      subst hvw
      congr 1
      refine ih hm' hn' fun i => ?_
      by_cases hik : i = k
      · subst hik; rw [memRead_eq_none_of_lt hk, memRead_eq_none_of_lt hl]
      · have h1 := h i
        rwa [memRead, if_neg (fun e => hik e.symm), memRead, if_neg (fun e => hik e.symm)] at h1

/-- A span answers its elements in order, and only when every one has been written. -/
theorem memSpan_eq_some_iff {m : Memory} {i n : Nat} {bs : List Byte} :
    memSpan m i n = some bs ↔ bs.length = n ∧ ∀ j, j < n → memRead m (i + j) = bs[j]? := by
  induction n generalizing i bs with
  | zero => cases bs <;> simp [memSpan]
  | succ n ih =>
    rw [memSpan]
    constructor
    · intro h
      split at h
      · next b cs hb hcs =>
        injection h with h
        subst h
        obtain ⟨hl, hr⟩ := ih.mp hcs
        refine ⟨by simp [hl], fun j hj => ?_⟩
        cases j with
        | zero => simpa using hb
        | succ j => rw [show i + (j + 1) = i + 1 + j by omega, hr j (by omega)]; simp
      · simp at h
    · rintro ⟨hl, hr⟩
      cases bs with
      | nil => simp at hl
      | cons b cs =>
        have hb : memRead m i = some b := by simpa using hr 0 (by omega)
        have hcs : memSpan m (i + 1) n = some cs :=
          ih.mpr ⟨by simpa using hl, fun j hj => by
            rw [show i + 1 + j = i + (j + 1) by omega, hr (j + 1) (by omega)]; simp⟩
        simp [hb, hcs]

/-- A span has no value exactly when one of its elements was never written. -/
theorem memSpan_eq_none_iff {m : Memory} {i n : Nat} :
    memSpan m i n = none ↔ ∃ j, j < n ∧ memRead m (i + j) = none := by
  induction n generalizing i with
  | zero => simp [memSpan]
  | succ n ih =>
    rw [memSpan]
    constructor
    · intro h
      split at h
      · simp at h
      · next hne =>
        cases hb : memRead m i with
        | none => exact ⟨0, by omega, by simpa using hb⟩
        | some b =>
          cases hs : memSpan m (i + 1) n with
          | some cs => exact absurd hs (by simpa using hne b cs hb)
          | none =>
            obtain ⟨j, hj, hr⟩ := ih.mp hs
            exact ⟨j + 1, by omega, by rwa [show i + (j + 1) = i + 1 + j by omega]⟩
    · rintro ⟨j, hj, hr⟩
      split
      · next b cs hb hcs =>
        exfalso
        cases j with
        | zero => exact absurd hr (by simp [hb])
        | succ j =>
          have : memSpan m (i + 1) n = none :=
            ih.mpr ⟨j, by omega, by rwa [show i + 1 + j = i + (j + 1) by omega]⟩
          simp [this] at hcs
      · rfl

/-- A span has a value exactly when all its elements were written. -/
theorem memSpan_isSome_iff {m : Memory} {i n : Nat} :
    (memSpan m i n).isSome ↔ ∀ j, j < n → memRead m (i + j) ≠ none := by
  rw [← Option.ne_none_iff_isSome, Ne, memSpan_eq_none_iff]
  push Not
  rfl

/-- The buffers after reset are in canonical form and within their bounds (R281). -/
theorem reset_buffers :
    Memory.wf State.reset.tf.pbuf ∧ Memory.within Config.pmax State.reset.tf.pbuf ∧
    Memory.wf State.reset.pl.plbuf ∧ Memory.within Config.plMax State.reset.pl.plbuf := by
  simp [State.reset, Memory.wf, Memory.within]

end Sys2Proof.Machine
end

