-- ==== Sys2Proof/Laws/State.lean ====
section
/-!
SUPPORT. One lemma per field and named update of the state: what the update leaves in it. A unit that
an update does not touch has one lemma for the whole unit.
-/

namespace Sys2Proof.Machine

/-! `clearTxStatus` -/

@[simp] theorem clearTxStatus_cu (s : State) : (clearTxStatus s).cu = s.cu := rfl
@[simp] theorem clearTxStatus_rd (s : State) : (clearTxStatus s).rd = s.rd := rfl
@[simp] theorem clearTxStatus_pl (s : State) : (clearTxStatus s).pl = s.pl := rfl
@[simp] theorem clearTxStatus_te (s : State) : (clearTxStatus s).te = s.te := rfl
@[simp] theorem clearTxStatus_host (s : State) : (clearTxStatus s).host = s.host := rfl
@[simp] theorem clearTxStatus_pbuf (s : State) : (clearTxStatus s).tf.pbuf = s.tf.pbuf := rfl
@[simp] theorem clearTxStatus_txout (s : State) : (clearTxStatus s).tf.txout = s.tf.txout := rfl
@[simp] theorem clearTxStatus_txDone (s : State) : (clearTxStatus s).tf.txDone = false := rfl
@[simp] theorem clearTxStatus_txErr (s : State) : (clearTxStatus s).tf.txErr = false := rfl
@[simp] theorem clearTxStatus_txCause (s : State) : (clearTxStatus s).tf.txCause = 0 := rfl

/-! `clearRxStatus` -/

@[simp] theorem clearRxStatus_cu (s : State) : (clearRxStatus s).cu = s.cu := rfl
@[simp] theorem clearRxStatus_tf (s : State) : (clearRxStatus s).tf = s.tf := rfl
@[simp] theorem clearRxStatus_pl (s : State) : (clearRxStatus s).pl = s.pl := rfl
@[simp] theorem clearRxStatus_te (s : State) : (clearRxStatus s).te = s.te := rfl
@[simp] theorem clearRxStatus_host (s : State) : (clearRxStatus s).host = s.host := rfl
@[simp] theorem clearRxStatus_rxs (s : State) : (clearRxStatus s).rd.rxs = s.rd.rxs := rfl
@[simp] theorem clearRxStatus_rxCnt (s : State) : (clearRxStatus s).rd.rxCnt = s.rd.rxCnt := rfl
@[simp] theorem clearRxStatus_rxL (s : State) : (clearRxStatus s).rd.rxL = s.rd.rxL := rfl
@[simp] theorem clearRxStatus_rxNeed (s : State) : (clearRxStatus s).rd.rxNeed = s.rd.rxNeed := rfl
@[simp] theorem clearRxStatus_rxDone (s : State) : (clearRxStatus s).rd.rxDone = false := rfl
@[simp] theorem clearRxStatus_rxErr (s : State) : (clearRxStatus s).rd.rxErr = false := rfl
@[simp] theorem clearRxStatus_rxCause (s : State) : (clearRxStatus s).rd.rxCause = 0 := rfl

/-! `clearTdStatus` -/

@[simp] theorem clearTdStatus_cu (s : State) : (clearTdStatus s).cu = s.cu := rfl
@[simp] theorem clearTdStatus_tf (s : State) : (clearTdStatus s).tf = s.tf := rfl
@[simp] theorem clearTdStatus_rd (s : State) : (clearTdStatus s).rd = s.rd := rfl
@[simp] theorem clearTdStatus_pl (s : State) : (clearTdStatus s).pl = s.pl := rfl
@[simp] theorem clearTdStatus_host (s : State) : (clearTdStatus s).host = s.host := rfl
@[simp] theorem clearTdStatus_cur (s : State) : (clearTdStatus s).te.cur = s.te.cur := rfl
@[simp] theorem clearTdStatus_fsq (s : State) : (clearTdStatus s).te.fsq = s.te.fsq := rfl
@[simp] theorem clearTdStatus_li (s : State) : (clearTdStatus s).te.li = s.te.li := rfl
@[simp] theorem clearTdStatus_n (s : State) : (clearTdStatus s).te.n = s.te.n := rfl
@[simp] theorem clearTdStatus_tn (s : State) : (clearTdStatus s).te.tn = s.te.tn := rfl
@[simp] theorem clearTdStatus_snap (s : State) : (clearTdStatus s).te.snap = s.te.snap := rfl
@[simp] theorem clearTdStatus_snapCnt (s : State) : (clearTdStatus s).te.snapCnt = s.te.snapCnt := rfl
@[simp] theorem clearTdStatus_tdValid (s : State) : (clearTdStatus s).te.tdValid = false := rfl
@[simp] theorem clearTdStatus_tdErr (s : State) : (clearTdStatus s).te.tdErr = false := rfl
@[simp] theorem clearTdStatus_tdCause (s : State) : (clearTdStatus s).te.tdCause = 0 := rfl

/-! `setTxDone` -/

@[simp] theorem setTxDone_cu (s : State) : (setTxDone s).cu = s.cu := rfl
@[simp] theorem setTxDone_rd (s : State) : (setTxDone s).rd = s.rd := rfl
@[simp] theorem setTxDone_pl (s : State) : (setTxDone s).pl = s.pl := rfl
@[simp] theorem setTxDone_te (s : State) : (setTxDone s).te = s.te := rfl
@[simp] theorem setTxDone_host (s : State) : (setTxDone s).host = s.host := rfl
@[simp] theorem setTxDone_pbuf (s : State) : (setTxDone s).tf.pbuf = s.tf.pbuf := rfl
@[simp] theorem setTxDone_txout (s : State) : (setTxDone s).tf.txout = s.tf.txout := rfl
@[simp] theorem setTxDone_txDone (s : State) : (setTxDone s).tf.txDone = true := rfl
@[simp] theorem setTxDone_txErr (s : State) : (setTxDone s).tf.txErr = s.tf.txErr := rfl
@[simp] theorem setTxDone_txCause (s : State) : (setTxDone s).tf.txCause = s.tf.txCause := rfl

/-! `setRxDone` -/

@[simp] theorem setRxDone_cu (s : State) : (setRxDone s).cu = s.cu := rfl
@[simp] theorem setRxDone_tf (s : State) : (setRxDone s).tf = s.tf := rfl
@[simp] theorem setRxDone_pl (s : State) : (setRxDone s).pl = s.pl := rfl
@[simp] theorem setRxDone_te (s : State) : (setRxDone s).te = s.te := rfl
@[simp] theorem setRxDone_host (s : State) : (setRxDone s).host = s.host := rfl
@[simp] theorem setRxDone_rxs (s : State) : (setRxDone s).rd.rxs = s.rd.rxs := rfl
@[simp] theorem setRxDone_rxCnt (s : State) : (setRxDone s).rd.rxCnt = s.rd.rxCnt := rfl
@[simp] theorem setRxDone_rxL (s : State) : (setRxDone s).rd.rxL = s.rd.rxL := rfl
@[simp] theorem setRxDone_rxNeed (s : State) : (setRxDone s).rd.rxNeed = s.rd.rxNeed := rfl
@[simp] theorem setRxDone_rxDone (s : State) : (setRxDone s).rd.rxDone = true := rfl
@[simp] theorem setRxDone_rxErr (s : State) : (setRxDone s).rd.rxErr = s.rd.rxErr := rfl
@[simp] theorem setRxDone_rxCause (s : State) : (setRxDone s).rd.rxCause = s.rd.rxCause := rfl

/-! `setTdValid` -/

@[simp] theorem setTdValid_cu (s : State) : (setTdValid s).cu = s.cu := rfl
@[simp] theorem setTdValid_tf (s : State) : (setTdValid s).tf = s.tf := rfl
@[simp] theorem setTdValid_rd (s : State) : (setTdValid s).rd = s.rd := rfl
@[simp] theorem setTdValid_pl (s : State) : (setTdValid s).pl = s.pl := rfl
@[simp] theorem setTdValid_host (s : State) : (setTdValid s).host = s.host := rfl
@[simp] theorem setTdValid_cur (s : State) : (setTdValid s).te.cur = s.te.cur := rfl
@[simp] theorem setTdValid_fsq (s : State) : (setTdValid s).te.fsq = s.te.fsq := rfl
@[simp] theorem setTdValid_li (s : State) : (setTdValid s).te.li = s.te.li := rfl
@[simp] theorem setTdValid_n (s : State) : (setTdValid s).te.n = s.te.n := rfl
@[simp] theorem setTdValid_tn (s : State) : (setTdValid s).te.tn = s.te.tn := rfl
@[simp] theorem setTdValid_snap (s : State) : (setTdValid s).te.snap = s.te.snap := rfl
@[simp] theorem setTdValid_snapCnt (s : State) : (setTdValid s).te.snapCnt = s.te.snapCnt := rfl
@[simp] theorem setTdValid_tdValid (s : State) : (setTdValid s).te.tdValid = true := rfl
@[simp] theorem setTdValid_tdErr (s : State) : (setTdValid s).te.tdErr = s.te.tdErr := rfl
@[simp] theorem setTdValid_tdCause (s : State) : (setTdValid s).te.tdCause = s.te.tdCause := rfl

/-! `recordFault` of `truncatedPayload` -/

@[simp] theorem recordFault_truncatedPayload_cu (fsq : BitVec 6) (li : BitVec 8) (cur : BitVec 11) (s : State) :
    (recordFault (.truncatedPayload fsq li cur) s).cu = s.cu := rfl
@[simp] theorem recordFault_truncatedPayload_tf (fsq : BitVec 6) (li : BitVec 8) (cur : BitVec 11) (s : State) :
    (recordFault (.truncatedPayload fsq li cur) s).tf = s.tf := rfl
@[simp] theorem recordFault_truncatedPayload_rd (fsq : BitVec 6) (li : BitVec 8) (cur : BitVec 11) (s : State) :
    (recordFault (.truncatedPayload fsq li cur) s).rd = s.rd := rfl
@[simp] theorem recordFault_truncatedPayload_pl (fsq : BitVec 6) (li : BitVec 8) (cur : BitVec 11) (s : State) :
    (recordFault (.truncatedPayload fsq li cur) s).pl = s.pl := rfl
@[simp] theorem recordFault_truncatedPayload_host (fsq : BitVec 6) (li : BitVec 8) (cur : BitVec 11) (s : State) :
    (recordFault (.truncatedPayload fsq li cur) s).host = s.host := rfl
@[simp] theorem recordFault_truncatedPayload_cur (fsq : BitVec 6) (li : BitVec 8) (cur : BitVec 11) (s : State) :
    (recordFault (.truncatedPayload fsq li cur) s).te.cur = s.te.cur := rfl
@[simp] theorem recordFault_truncatedPayload_fsq (fsq : BitVec 6) (li : BitVec 8) (cur : BitVec 11) (s : State) :
    (recordFault (.truncatedPayload fsq li cur) s).te.fsq = s.te.fsq := rfl
@[simp] theorem recordFault_truncatedPayload_li (fsq : BitVec 6) (li : BitVec 8) (cur : BitVec 11) (s : State) :
    (recordFault (.truncatedPayload fsq li cur) s).te.li = s.te.li := rfl
@[simp] theorem recordFault_truncatedPayload_n (fsq : BitVec 6) (li : BitVec 8) (cur : BitVec 11) (s : State) :
    (recordFault (.truncatedPayload fsq li cur) s).te.n = s.te.n := rfl
@[simp] theorem recordFault_truncatedPayload_tn (fsq : BitVec 6) (li : BitVec 8) (cur : BitVec 11) (s : State) :
    (recordFault (.truncatedPayload fsq li cur) s).te.tn = s.te.tn := rfl
@[simp] theorem recordFault_truncatedPayload_snap (fsq : BitVec 6) (li : BitVec 8) (cur : BitVec 11) (s : State) :
    (recordFault (.truncatedPayload fsq li cur) s).te.snap = s.te.snap := rfl
@[simp] theorem recordFault_truncatedPayload_snapCnt (fsq : BitVec 6) (li : BitVec 8) (cur : BitVec 11) (s : State) :
    (recordFault (.truncatedPayload fsq li cur) s).te.snapCnt = s.te.snapCnt := rfl
@[simp] theorem recordFault_truncatedPayload_tdValid (fsq : BitVec 6) (li : BitVec 8) (cur : BitVec 11) (s : State) :
    (recordFault (.truncatedPayload fsq li cur) s).te.tdValid = s.te.tdValid := rfl
@[simp] theorem recordFault_truncatedPayload_tdErr (fsq : BitVec 6) (li : BitVec 8) (cur : BitVec 11) (s : State) :
    (recordFault (.truncatedPayload fsq li cur) s).te.tdErr = true := rfl
@[simp] theorem recordFault_truncatedPayload_tdCause (fsq : BitVec 6) (li : BitVec 8) (cur : BitVec 11) (s : State) :
    (recordFault (.truncatedPayload fsq li cur) s).te.tdCause = 1 := rfl

/-! `recordFault` of `lengthOverflow` -/

@[simp] theorem recordFault_lengthOverflow_cu (plen : BitVec 8) (s : State) :
    (recordFault (.lengthOverflow plen) s).cu = s.cu := rfl
@[simp] theorem recordFault_lengthOverflow_rd (plen : BitVec 8) (s : State) :
    (recordFault (.lengthOverflow plen) s).rd = s.rd := rfl
@[simp] theorem recordFault_lengthOverflow_pl (plen : BitVec 8) (s : State) :
    (recordFault (.lengthOverflow plen) s).pl = s.pl := rfl
@[simp] theorem recordFault_lengthOverflow_te (plen : BitVec 8) (s : State) :
    (recordFault (.lengthOverflow plen) s).te = s.te := rfl
@[simp] theorem recordFault_lengthOverflow_host (plen : BitVec 8) (s : State) :
    (recordFault (.lengthOverflow plen) s).host = s.host := rfl
@[simp] theorem recordFault_lengthOverflow_pbuf (plen : BitVec 8) (s : State) :
    (recordFault (.lengthOverflow plen) s).tf.pbuf = s.tf.pbuf := rfl
@[simp] theorem recordFault_lengthOverflow_txout (plen : BitVec 8) (s : State) :
    (recordFault (.lengthOverflow plen) s).tf.txout = s.tf.txout := rfl
@[simp] theorem recordFault_lengthOverflow_txDone (plen : BitVec 8) (s : State) :
    (recordFault (.lengthOverflow plen) s).tf.txDone = s.tf.txDone := rfl
@[simp] theorem recordFault_lengthOverflow_txErr (plen : BitVec 8) (s : State) :
    (recordFault (.lengthOverflow plen) s).tf.txErr = true := rfl
@[simp] theorem recordFault_lengthOverflow_txCause (plen : BitVec 8) (s : State) :
    (recordFault (.lengthOverflow plen) s).tf.txCause = 2 := rfl

/-! `recordFault` of `shortFrame` -/

@[simp] theorem recordFault_shortFrame_cu (info : BitVec 9) (s : State) :
    (recordFault (.shortFrame info) s).cu = s.cu := rfl
@[simp] theorem recordFault_shortFrame_tf (info : BitVec 9) (s : State) :
    (recordFault (.shortFrame info) s).tf = s.tf := rfl
@[simp] theorem recordFault_shortFrame_pl (info : BitVec 9) (s : State) :
    (recordFault (.shortFrame info) s).pl = s.pl := rfl
@[simp] theorem recordFault_shortFrame_te (info : BitVec 9) (s : State) :
    (recordFault (.shortFrame info) s).te = s.te := rfl
@[simp] theorem recordFault_shortFrame_host (info : BitVec 9) (s : State) :
    (recordFault (.shortFrame info) s).host = s.host := rfl
@[simp] theorem recordFault_shortFrame_rxs (info : BitVec 9) (s : State) :
    (recordFault (.shortFrame info) s).rd.rxs = s.rd.rxs := rfl
@[simp] theorem recordFault_shortFrame_rxCnt (info : BitVec 9) (s : State) :
    (recordFault (.shortFrame info) s).rd.rxCnt = s.rd.rxCnt := rfl
@[simp] theorem recordFault_shortFrame_rxL (info : BitVec 9) (s : State) :
    (recordFault (.shortFrame info) s).rd.rxL = s.rd.rxL := rfl
@[simp] theorem recordFault_shortFrame_rxNeed (info : BitVec 9) (s : State) :
    (recordFault (.shortFrame info) s).rd.rxNeed = s.rd.rxNeed := rfl
@[simp] theorem recordFault_shortFrame_rxDone (info : BitVec 9) (s : State) :
    (recordFault (.shortFrame info) s).rd.rxDone = s.rd.rxDone := rfl
@[simp] theorem recordFault_shortFrame_rxErr (info : BitVec 9) (s : State) :
    (recordFault (.shortFrame info) s).rd.rxErr = true := rfl
@[simp] theorem recordFault_shortFrame_rxCause (info : BitVec 9) (s : State) :
    (recordFault (.shortFrame info) s).rd.rxCause = 3 := rfl

/-! `answer` -/

@[simp] theorem answer_cu (r : Result) (s : State) : (answer r s).cu = s.cu := rfl
@[simp] theorem answer_tf (r : Result) (s : State) : (answer r s).tf = s.tf := rfl
@[simp] theorem answer_rd (r : Result) (s : State) : (answer r s).rd = s.rd := rfl
@[simp] theorem answer_pl (r : Result) (s : State) : (answer r s).pl = s.pl := rfl
@[simp] theorem answer_te (r : Result) (s : State) : (answer r s).te = s.te := rfl
@[simp] theorem answer_pending (r : Result) (s : State) : (answer r s).host.pending = s.host.pending := rfl
@[simp] theorem answer_results (r : Result) (s : State) :
    (answer r s).host.results = s.host.results ++ [r] := rfl

/-! `setAcc` -/

@[simp] theorem setAcc_tf (v : Word) (s : State) : (setAcc v s).tf = s.tf := rfl
@[simp] theorem setAcc_rd (v : Word) (s : State) : (setAcc v s).rd = s.rd := rfl
@[simp] theorem setAcc_pl (v : Word) (s : State) : (setAcc v s).pl = s.pl := rfl
@[simp] theorem setAcc_te (v : Word) (s : State) : (setAcc v s).te = s.te := rfl
@[simp] theorem setAcc_host (v : Word) (s : State) : (setAcc v s).host = s.host := rfl
@[simp] theorem setAcc_acc (v : Word) (s : State) : (setAcc v s).cu.acc = v := rfl

/-! `setPbuf` -/

@[simp] theorem setPbuf_cu (i : Nat) (b : Byte) (s : State) : (setPbuf i b s).cu = s.cu := rfl
@[simp] theorem setPbuf_rd (i : Nat) (b : Byte) (s : State) : (setPbuf i b s).rd = s.rd := rfl
@[simp] theorem setPbuf_pl (i : Nat) (b : Byte) (s : State) : (setPbuf i b s).pl = s.pl := rfl
@[simp] theorem setPbuf_te (i : Nat) (b : Byte) (s : State) : (setPbuf i b s).te = s.te := rfl
@[simp] theorem setPbuf_host (i : Nat) (b : Byte) (s : State) : (setPbuf i b s).host = s.host := rfl
@[simp] theorem setPbuf_pbuf (i : Nat) (b : Byte) (s : State) :
    (setPbuf i b s).tf.pbuf = memWrite s.tf.pbuf i b := rfl
@[simp] theorem setPbuf_txout (i : Nat) (b : Byte) (s : State) : (setPbuf i b s).tf.txout = s.tf.txout := rfl
@[simp] theorem setPbuf_txDone (i : Nat) (b : Byte) (s : State) : (setPbuf i b s).tf.txDone = s.tf.txDone := rfl
@[simp] theorem setPbuf_txErr (i : Nat) (b : Byte) (s : State) : (setPbuf i b s).tf.txErr = s.tf.txErr := rfl
@[simp] theorem setPbuf_txCause (i : Nat) (b : Byte) (s : State) :
    (setPbuf i b s).tf.txCause = s.tf.txCause := rfl

/-! `emit` -/

@[simp] theorem emit_cu (bs : List Byte) (s : State) : (emit bs s).cu = s.cu := rfl
@[simp] theorem emit_rd (bs : List Byte) (s : State) : (emit bs s).rd = s.rd := rfl
@[simp] theorem emit_pl (bs : List Byte) (s : State) : (emit bs s).pl = s.pl := rfl
@[simp] theorem emit_te (bs : List Byte) (s : State) : (emit bs s).te = s.te := rfl
@[simp] theorem emit_host (bs : List Byte) (s : State) : (emit bs s).host = s.host := rfl
@[simp] theorem emit_pbuf (bs : List Byte) (s : State) : (emit bs s).tf.pbuf = s.tf.pbuf := rfl
@[simp] theorem emit_txout (bs : List Byte) (s : State) : (emit bs s).tf.txout = s.tf.txout ++ bs := rfl
@[simp] theorem emit_txDone (bs : List Byte) (s : State) : (emit bs s).tf.txDone = s.tf.txDone := rfl
@[simp] theorem emit_txErr (bs : List Byte) (s : State) : (emit bs s).tf.txErr = s.tf.txErr := rfl
@[simp] theorem emit_txCause (bs : List Byte) (s : State) : (emit bs s).tf.txCause = s.tf.txCause := rfl

/-! `setRxs` -/

@[simp] theorem setRxs_cu (x : RxState) (s : State) : (setRxs x s).cu = s.cu := rfl
@[simp] theorem setRxs_tf (x : RxState) (s : State) : (setRxs x s).tf = s.tf := rfl
@[simp] theorem setRxs_pl (x : RxState) (s : State) : (setRxs x s).pl = s.pl := rfl
@[simp] theorem setRxs_te (x : RxState) (s : State) : (setRxs x s).te = s.te := rfl
@[simp] theorem setRxs_host (x : RxState) (s : State) : (setRxs x s).host = s.host := rfl
@[simp] theorem setRxs_rxs (x : RxState) (s : State) : (setRxs x s).rd.rxs = x := rfl
@[simp] theorem setRxs_rxCnt (x : RxState) (s : State) : (setRxs x s).rd.rxCnt = s.rd.rxCnt := rfl
@[simp] theorem setRxs_rxL (x : RxState) (s : State) : (setRxs x s).rd.rxL = s.rd.rxL := rfl
@[simp] theorem setRxs_rxNeed (x : RxState) (s : State) : (setRxs x s).rd.rxNeed = s.rd.rxNeed := rfl
@[simp] theorem setRxs_rxDone (x : RxState) (s : State) : (setRxs x s).rd.rxDone = s.rd.rxDone := rfl
@[simp] theorem setRxs_rxErr (x : RxState) (s : State) : (setRxs x s).rd.rxErr = s.rd.rxErr := rfl
@[simp] theorem setRxs_rxCause (x : RxState) (s : State) : (setRxs x s).rd.rxCause = s.rd.rxCause := rfl

/-! `setPlLen` -/

@[simp] theorem setPlLen_cu (n : BitVec 11) (s : State) : (setPlLen n s).cu = s.cu := rfl
@[simp] theorem setPlLen_tf (n : BitVec 11) (s : State) : (setPlLen n s).tf = s.tf := rfl
@[simp] theorem setPlLen_rd (n : BitVec 11) (s : State) : (setPlLen n s).rd = s.rd := rfl
@[simp] theorem setPlLen_te (n : BitVec 11) (s : State) : (setPlLen n s).te = s.te := rfl
@[simp] theorem setPlLen_host (n : BitVec 11) (s : State) : (setPlLen n s).host = s.host := rfl
@[simp] theorem setPlLen_plbuf (n : BitVec 11) (s : State) : (setPlLen n s).pl.plbuf = s.pl.plbuf := rfl
@[simp] theorem setPlLen_plLen (n : BitVec 11) (s : State) : (setPlLen n s).pl.plLen = n := rfl

/-! `setPlbuf` -/

@[simp] theorem setPlbuf_cu (i : Nat) (b : Byte) (s : State) : (setPlbuf i b s).cu = s.cu := rfl
@[simp] theorem setPlbuf_tf (i : Nat) (b : Byte) (s : State) : (setPlbuf i b s).tf = s.tf := rfl
@[simp] theorem setPlbuf_rd (i : Nat) (b : Byte) (s : State) : (setPlbuf i b s).rd = s.rd := rfl
@[simp] theorem setPlbuf_te (i : Nat) (b : Byte) (s : State) : (setPlbuf i b s).te = s.te := rfl
@[simp] theorem setPlbuf_host (i : Nat) (b : Byte) (s : State) : (setPlbuf i b s).host = s.host := rfl
@[simp] theorem setPlbuf_plbuf (i : Nat) (b : Byte) (s : State) :
    (setPlbuf i b s).pl.plbuf = memWrite s.pl.plbuf i b := rfl
@[simp] theorem setPlbuf_plLen (i : Nat) (b : Byte) (s : State) : (setPlbuf i b s).pl.plLen = s.pl.plLen := rfl

/-! `clearRxCounts` -/

@[simp] theorem clearRxCounts_cu (s : State) : (clearRxCounts s).cu = s.cu := rfl
@[simp] theorem clearRxCounts_tf (s : State) : (clearRxCounts s).tf = s.tf := rfl
@[simp] theorem clearRxCounts_pl (s : State) : (clearRxCounts s).pl = s.pl := rfl
@[simp] theorem clearRxCounts_te (s : State) : (clearRxCounts s).te = s.te := rfl
@[simp] theorem clearRxCounts_host (s : State) : (clearRxCounts s).host = s.host := rfl
@[simp] theorem clearRxCounts_rxs (s : State) : (clearRxCounts s).rd.rxs = s.rd.rxs := rfl
@[simp] theorem clearRxCounts_rxCnt (s : State) : (clearRxCounts s).rd.rxCnt = 0 := rfl
@[simp] theorem clearRxCounts_rxL (s : State) : (clearRxCounts s).rd.rxL = 0 := rfl
@[simp] theorem clearRxCounts_rxNeed (s : State) : (clearRxCounts s).rd.rxNeed = 0 := rfl
@[simp] theorem clearRxCounts_rxDone (s : State) : (clearRxCounts s).rd.rxDone = s.rd.rxDone := rfl
@[simp] theorem clearRxCounts_rxErr (s : State) : (clearRxCounts s).rd.rxErr = s.rd.rxErr := rfl
@[simp] theorem clearRxCounts_rxCause (s : State) : (clearRxCounts s).rd.rxCause = s.rd.rxCause := rfl

/-! `takeEnvelope` -/

@[simp] theorem takeEnvelope_cu (b : Byte) (s : State) : (takeEnvelope b s).cu = s.cu := rfl
@[simp] theorem takeEnvelope_tf (b : Byte) (s : State) : (takeEnvelope b s).tf = s.tf := rfl
@[simp] theorem takeEnvelope_pl (b : Byte) (s : State) : (takeEnvelope b s).pl = s.pl := rfl
@[simp] theorem takeEnvelope_te (b : Byte) (s : State) : (takeEnvelope b s).te = s.te := rfl
@[simp] theorem takeEnvelope_host (b : Byte) (s : State) : (takeEnvelope b s).host = s.host := rfl
@[simp] theorem takeEnvelope_rxs (b : Byte) (s : State) : (takeEnvelope b s).rd.rxs = s.rd.rxs := rfl
@[simp] theorem takeEnvelope_rxCnt (b : Byte) (s : State) : (takeEnvelope b s).rd.rxCnt = s.rd.rxCnt + 1 := rfl
@[simp] theorem takeEnvelope_rxL (b : Byte) (s : State) :
    (takeEnvelope b s).rd.rxL = if s.rd.rxCnt.toNat = Config.rxLenIdx then b else s.rd.rxL := rfl
@[simp] theorem takeEnvelope_rxNeed (b : Byte) (s : State) : (takeEnvelope b s).rd.rxNeed = s.rd.rxNeed := rfl
@[simp] theorem takeEnvelope_rxDone (b : Byte) (s : State) : (takeEnvelope b s).rd.rxDone = s.rd.rxDone := rfl
@[simp] theorem takeEnvelope_rxErr (b : Byte) (s : State) : (takeEnvelope b s).rd.rxErr = s.rd.rxErr := rfl
@[simp] theorem takeEnvelope_rxCause (b : Byte) (s : State) :
    (takeEnvelope b s).rd.rxCause = s.rd.rxCause := rfl

/-! `announcePayload` -/

@[simp] theorem announcePayload_cu (s : State) : (announcePayload s).cu = s.cu := rfl
@[simp] theorem announcePayload_tf (s : State) : (announcePayload s).tf = s.tf := rfl
@[simp] theorem announcePayload_pl (s : State) : (announcePayload s).pl = s.pl := rfl
@[simp] theorem announcePayload_te (s : State) : (announcePayload s).te = s.te := rfl
@[simp] theorem announcePayload_host (s : State) : (announcePayload s).host = s.host := rfl
@[simp] theorem announcePayload_rxs (s : State) :
    (announcePayload s).rd.rxs = if s.rd.rxL - BitVec.ofNat 8 Config.rxLenAdj = 0 then .tail else .pay := rfl
@[simp] theorem announcePayload_rxCnt (s : State) : (announcePayload s).rd.rxCnt = s.rd.rxCnt := rfl
@[simp] theorem announcePayload_rxL (s : State) : (announcePayload s).rd.rxL = s.rd.rxL := rfl
@[simp] theorem announcePayload_rxNeed (s : State) :
    (announcePayload s).rd.rxNeed = s.rd.rxL - BitVec.ofNat 8 Config.rxLenAdj := rfl
@[simp] theorem announcePayload_rxDone (s : State) : (announcePayload s).rd.rxDone = s.rd.rxDone := rfl
@[simp] theorem announcePayload_rxErr (s : State) : (announcePayload s).rd.rxErr = s.rd.rxErr := rfl
@[simp] theorem announcePayload_rxCause (s : State) : (announcePayload s).rd.rxCause = s.rd.rxCause := rfl

/-! `startFrame` -/

@[simp] theorem startFrame_cu (s : State) : (startFrame s).cu = s.cu := rfl
@[simp] theorem startFrame_tf (s : State) : (startFrame s).tf = s.tf := rfl
@[simp] theorem startFrame_rxs (s : State) :
    (startFrame s).rd.rxs = .env := rfl
@[simp] theorem startFrame_rxCnt (s : State) :
    (startFrame s).rd.rxCnt = 0 := rfl
@[simp] theorem startFrame_rxL (s : State) :
    (startFrame s).rd.rxL = 0 := rfl
@[simp] theorem startFrame_rxNeed (s : State) :
    (startFrame s).rd.rxNeed = 0 := rfl
@[simp] theorem startFrame_rxDone (s : State) :
    (startFrame s).rd.rxDone = false := rfl
@[simp] theorem startFrame_rxErr (s : State) :
    (startFrame s).rd.rxErr = false := rfl
@[simp] theorem startFrame_rxCause (s : State) :
    (startFrame s).rd.rxCause = 0 := rfl
@[simp] theorem startFrame_plbuf (s : State) :
    (startFrame s).pl.plbuf = s.pl.plbuf := rfl
@[simp] theorem startFrame_plLen (s : State) :
    (startFrame s).pl.plLen = 0 := rfl
@[simp] theorem startFrame_te (s : State) : (startFrame s).te = s.te := rfl
@[simp] theorem startFrame_host (s : State) : (startFrame s).host = s.host := rfl

/-! `storePayload` -/

@[simp] theorem storePayload_cu (b : Byte) (s : State) : (storePayload b s).cu = s.cu := rfl
@[simp] theorem storePayload_tf (b : Byte) (s : State) : (storePayload b s).tf = s.tf := rfl
@[simp] theorem storePayload_rxs (b : Byte) (s : State) :
    (storePayload b s).rd.rxs = if (s.pl.plLen + 1).toNat = s.rd.rxNeed.toNat then .tail else s.rd.rxs := rfl
@[simp] theorem storePayload_rxCnt (b : Byte) (s : State) :
    (storePayload b s).rd.rxCnt = s.rd.rxCnt + 1 := rfl
@[simp] theorem storePayload_rxL (b : Byte) (s : State) :
    (storePayload b s).rd.rxL = s.rd.rxL := rfl
@[simp] theorem storePayload_rxNeed (b : Byte) (s : State) :
    (storePayload b s).rd.rxNeed = s.rd.rxNeed := rfl
@[simp] theorem storePayload_rxDone (b : Byte) (s : State) :
    (storePayload b s).rd.rxDone = s.rd.rxDone := rfl
@[simp] theorem storePayload_rxErr (b : Byte) (s : State) :
    (storePayload b s).rd.rxErr = s.rd.rxErr := rfl
@[simp] theorem storePayload_rxCause (b : Byte) (s : State) :
    (storePayload b s).rd.rxCause = s.rd.rxCause := rfl
@[simp] theorem storePayload_plbuf (b : Byte) (s : State) :
    (storePayload b s).pl.plbuf = memWrite s.pl.plbuf s.pl.plLen.toNat b := rfl
@[simp] theorem storePayload_plLen (b : Byte) (s : State) :
    (storePayload b s).pl.plLen = s.pl.plLen + 1 := rfl
@[simp] theorem storePayload_te (b : Byte) (s : State) : (storePayload b s).te = s.te := rfl
@[simp] theorem storePayload_host (b : Byte) (s : State) : (storePayload b s).host = s.host := rfl

/-! `moveCursor` -/

@[simp] theorem moveCursor_cu (w : FieldWidth) (s : State) : (moveCursor w s).cu = s.cu := rfl
@[simp] theorem moveCursor_tf (w : FieldWidth) (s : State) : (moveCursor w s).tf = s.tf := rfl
@[simp] theorem moveCursor_rd (w : FieldWidth) (s : State) : (moveCursor w s).rd = s.rd := rfl
@[simp] theorem moveCursor_pl (w : FieldWidth) (s : State) : (moveCursor w s).pl = s.pl := rfl
@[simp] theorem moveCursor_host (w : FieldWidth) (s : State) : (moveCursor w s).host = s.host := rfl
@[simp] theorem moveCursor_cur (w : FieldWidth) (s : State) :
    (moveCursor w s).te.cur = s.te.cur + BitVec.ofNat 11 w.bytes := rfl
@[simp] theorem moveCursor_fsq (w : FieldWidth) (s : State) : (moveCursor w s).te.fsq = s.te.fsq := rfl
@[simp] theorem moveCursor_li (w : FieldWidth) (s : State) : (moveCursor w s).te.li = s.te.li := rfl
@[simp] theorem moveCursor_n (w : FieldWidth) (s : State) : (moveCursor w s).te.n = s.te.n := rfl
@[simp] theorem moveCursor_tn (w : FieldWidth) (s : State) : (moveCursor w s).te.tn = s.te.tn := rfl
@[simp] theorem moveCursor_snap (w : FieldWidth) (s : State) : (moveCursor w s).te.snap = s.te.snap := rfl
@[simp] theorem moveCursor_snapCnt (w : FieldWidth) (s : State) :
    (moveCursor w s).te.snapCnt = s.te.snapCnt := rfl
@[simp] theorem moveCursor_tdValid (w : FieldWidth) (s : State) :
    (moveCursor w s).te.tdValid = s.te.tdValid := rfl
@[simp] theorem moveCursor_tdErr (w : FieldWidth) (s : State) : (moveCursor w s).te.tdErr = s.te.tdErr := rfl
@[simp] theorem moveCursor_tdCause (w : FieldWidth) (s : State) :
    (moveCursor w s).te.tdCause = s.te.tdCause := rfl

/-! `latchCount` -/

@[simp] theorem latchCount_cu (l : Latch) (sr : Word) (s : State) : (latchCount l sr s).cu = s.cu := by
  cases l <;> rfl
@[simp] theorem latchCount_tf (l : Latch) (sr : Word) (s : State) : (latchCount l sr s).tf = s.tf := by
  cases l <;> rfl
@[simp] theorem latchCount_rd (l : Latch) (sr : Word) (s : State) : (latchCount l sr s).rd = s.rd := by
  cases l <;> rfl
@[simp] theorem latchCount_pl (l : Latch) (sr : Word) (s : State) : (latchCount l sr s).pl = s.pl := by
  cases l <;> rfl
@[simp] theorem latchCount_host (l : Latch) (sr : Word) (s : State) : (latchCount l sr s).host = s.host := by
  cases l <;> rfl
@[simp] theorem latchCount_cur (l : Latch) (sr : Word) (s : State) :
    (latchCount l sr s).te.cur = s.te.cur := by cases l <;> rfl
@[simp] theorem latchCount_fsq (l : Latch) (sr : Word) (s : State) :
    (latchCount l sr s).te.fsq = s.te.fsq := by cases l <;> rfl
@[simp] theorem latchCount_li (l : Latch) (sr : Word) (s : State) :
    (latchCount l sr s).te.li = s.te.li := by cases l <;> rfl
@[simp] theorem latchCount_n (l : Latch) (sr : Word) (s : State) :
    (latchCount l sr s).te.n = if l = .n then lo8 sr else s.te.n := by cases l <;> rfl
@[simp] theorem latchCount_tn (l : Latch) (sr : Word) (s : State) :
    (latchCount l sr s).te.tn = if l = .tn then lo8 sr else s.te.tn := by cases l <;> rfl
@[simp] theorem latchCount_snap (l : Latch) (sr : Word) (s : State) :
    (latchCount l sr s).te.snap = s.te.snap := by cases l <;> rfl
@[simp] theorem latchCount_snapCnt (l : Latch) (sr : Word) (s : State) :
    (latchCount l sr s).te.snapCnt = s.te.snapCnt := by cases l <;> rfl
@[simp] theorem latchCount_tdValid (l : Latch) (sr : Word) (s : State) :
    (latchCount l sr s).te.tdValid = s.te.tdValid := by cases l <;> rfl
@[simp] theorem latchCount_tdErr (l : Latch) (sr : Word) (s : State) :
    (latchCount l sr s).te.tdErr = s.te.tdErr := by cases l <;> rfl
@[simp] theorem latchCount_tdCause (l : Latch) (sr : Word) (s : State) :
    (latchCount l sr s).te.tdCause = s.te.tdCause := by cases l <;> rfl

/-! `appendEntry` -/

@[simp] theorem appendEntry_cu (x : Entry) (s : State) : (appendEntry x s).cu = s.cu := rfl
@[simp] theorem appendEntry_tf (x : Entry) (s : State) : (appendEntry x s).tf = s.tf := rfl
@[simp] theorem appendEntry_rd (x : Entry) (s : State) : (appendEntry x s).rd = s.rd := rfl
@[simp] theorem appendEntry_pl (x : Entry) (s : State) : (appendEntry x s).pl = s.pl := rfl
@[simp] theorem appendEntry_host (x : Entry) (s : State) : (appendEntry x s).host = s.host := rfl
@[simp] theorem appendEntry_cur (x : Entry) (s : State) : (appendEntry x s).te.cur = s.te.cur := rfl
@[simp] theorem appendEntry_fsq (x : Entry) (s : State) : (appendEntry x s).te.fsq = s.te.fsq := rfl
@[simp] theorem appendEntry_li (x : Entry) (s : State) : (appendEntry x s).te.li = s.te.li := rfl
@[simp] theorem appendEntry_n (x : Entry) (s : State) : (appendEntry x s).te.n = s.te.n := rfl
@[simp] theorem appendEntry_tn (x : Entry) (s : State) : (appendEntry x s).te.tn = s.te.tn := rfl
@[simp] theorem appendEntry_snap (x : Entry) (s : State) : (appendEntry x s).te.snap = s.te.snap ++ [x] := rfl
@[simp] theorem appendEntry_snapCnt (x : Entry) (s : State) :
    (appendEntry x s).te.snapCnt = s.te.snapCnt + 1 := rfl
@[simp] theorem appendEntry_tdValid (x : Entry) (s : State) : (appendEntry x s).te.tdValid = s.te.tdValid := rfl
@[simp] theorem appendEntry_tdErr (x : Entry) (s : State) : (appendEntry x s).te.tdErr = s.te.tdErr := rfl
@[simp] theorem appendEntry_tdCause (x : Entry) (s : State) : (appendEntry x s).te.tdCause = s.te.tdCause := rfl

/-! `setLi` -/

@[simp] theorem setLi_cu (i : BitVec 8) (s : State) : (setLi i s).cu = s.cu := rfl
@[simp] theorem setLi_tf (i : BitVec 8) (s : State) : (setLi i s).tf = s.tf := rfl
@[simp] theorem setLi_rd (i : BitVec 8) (s : State) : (setLi i s).rd = s.rd := rfl
@[simp] theorem setLi_pl (i : BitVec 8) (s : State) : (setLi i s).pl = s.pl := rfl
@[simp] theorem setLi_host (i : BitVec 8) (s : State) : (setLi i s).host = s.host := rfl
@[simp] theorem setLi_cur (i : BitVec 8) (s : State) : (setLi i s).te.cur = s.te.cur := rfl
@[simp] theorem setLi_fsq (i : BitVec 8) (s : State) : (setLi i s).te.fsq = s.te.fsq := rfl
@[simp] theorem setLi_li (i : BitVec 8) (s : State) : (setLi i s).te.li = i := rfl
@[simp] theorem setLi_n (i : BitVec 8) (s : State) : (setLi i s).te.n = s.te.n := rfl
@[simp] theorem setLi_tn (i : BitVec 8) (s : State) : (setLi i s).te.tn = s.te.tn := rfl
@[simp] theorem setLi_snap (i : BitVec 8) (s : State) : (setLi i s).te.snap = s.te.snap := rfl
@[simp] theorem setLi_snapCnt (i : BitVec 8) (s : State) : (setLi i s).te.snapCnt = s.te.snapCnt := rfl
@[simp] theorem setLi_tdValid (i : BitVec 8) (s : State) : (setLi i s).te.tdValid = s.te.tdValid := rfl
@[simp] theorem setLi_tdErr (i : BitVec 8) (s : State) : (setLi i s).te.tdErr = s.te.tdErr := rfl
@[simp] theorem setLi_tdCause (i : BitVec 8) (s : State) : (setLi i s).te.tdCause = s.te.tdCause := rfl

/-! `nextDescriptor` -/

@[simp] theorem nextDescriptor_cu (s : State) : (nextDescriptor s).cu = s.cu := rfl
@[simp] theorem nextDescriptor_tf (s : State) : (nextDescriptor s).tf = s.tf := rfl
@[simp] theorem nextDescriptor_rd (s : State) : (nextDescriptor s).rd = s.rd := rfl
@[simp] theorem nextDescriptor_pl (s : State) : (nextDescriptor s).pl = s.pl := rfl
@[simp] theorem nextDescriptor_host (s : State) : (nextDescriptor s).host = s.host := rfl
@[simp] theorem nextDescriptor_cur (s : State) : (nextDescriptor s).te.cur = s.te.cur := rfl
@[simp] theorem nextDescriptor_fsq (s : State) : (nextDescriptor s).te.fsq = s.te.fsq + 1 := rfl
@[simp] theorem nextDescriptor_li (s : State) : (nextDescriptor s).te.li = s.te.li := rfl
@[simp] theorem nextDescriptor_n (s : State) : (nextDescriptor s).te.n = s.te.n := rfl
@[simp] theorem nextDescriptor_tn (s : State) : (nextDescriptor s).te.tn = s.te.tn := rfl
@[simp] theorem nextDescriptor_snap (s : State) : (nextDescriptor s).te.snap = s.te.snap := rfl
@[simp] theorem nextDescriptor_snapCnt (s : State) : (nextDescriptor s).te.snapCnt = s.te.snapCnt := rfl
@[simp] theorem nextDescriptor_tdValid (s : State) : (nextDescriptor s).te.tdValid = s.te.tdValid := rfl
@[simp] theorem nextDescriptor_tdErr (s : State) : (nextDescriptor s).te.tdErr = s.te.tdErr := rfl
@[simp] theorem nextDescriptor_tdCause (s : State) : (nextDescriptor s).te.tdCause = s.te.tdCause := rfl

/-! `nextElement` -/

@[simp] theorem nextElement_cu (c : BitVec 8) (s : State) : (nextElement c s).cu = s.cu := by
  unfold nextElement; split <;> rfl
@[simp] theorem nextElement_tf (c : BitVec 8) (s : State) : (nextElement c s).tf = s.tf := by
  unfold nextElement; split <;> rfl
@[simp] theorem nextElement_rd (c : BitVec 8) (s : State) : (nextElement c s).rd = s.rd := by
  unfold nextElement; split <;> rfl
@[simp] theorem nextElement_pl (c : BitVec 8) (s : State) : (nextElement c s).pl = s.pl := by
  unfold nextElement; split <;> rfl
@[simp] theorem nextElement_host (c : BitVec 8) (s : State) : (nextElement c s).host = s.host := by
  unfold nextElement; split <;> rfl
@[simp] theorem nextElement_cur (c : BitVec 8) (s : State) :
    (nextElement c s).te.cur = s.te.cur := by
  unfold nextElement; split <;> rfl
@[simp] theorem nextElement_fsq (c : BitVec 8) (s : State) :
    (nextElement c s).te.fsq = if s.te.li.toNat < c.toNat then s.te.fsq else s.te.fsq + 1 := by
  unfold nextElement; split <;> rfl
@[simp] theorem nextElement_li (c : BitVec 8) (s : State) :
    (nextElement c s).te.li = if s.te.li.toNat < c.toNat then s.te.li + 1 else 0 := by
  unfold nextElement; split <;> rfl
@[simp] theorem nextElement_n (c : BitVec 8) (s : State) :
    (nextElement c s).te.n = s.te.n := by
  unfold nextElement; split <;> rfl
@[simp] theorem nextElement_tn (c : BitVec 8) (s : State) :
    (nextElement c s).te.tn = s.te.tn := by
  unfold nextElement; split <;> rfl
@[simp] theorem nextElement_snap (c : BitVec 8) (s : State) :
    (nextElement c s).te.snap = s.te.snap := by
  unfold nextElement; split <;> rfl
@[simp] theorem nextElement_snapCnt (c : BitVec 8) (s : State) :
    (nextElement c s).te.snapCnt = s.te.snapCnt := by
  unfold nextElement; split <;> rfl
@[simp] theorem nextElement_tdValid (c : BitVec 8) (s : State) :
    (nextElement c s).te.tdValid = s.te.tdValid := by
  unfold nextElement; split <;> rfl
@[simp] theorem nextElement_tdErr (c : BitVec 8) (s : State) :
    (nextElement c s).te.tdErr = s.te.tdErr := by
  unfold nextElement; split <;> rfl
@[simp] theorem nextElement_tdCause (c : BitVec 8) (s : State) :
    (nextElement c s).te.tdCause = s.te.tdCause := by
  unfold nextElement; split <;> rfl

/-! `enterArray` -/

@[simp] theorem enterArray_cu (s : State) : (enterArray s).cu = s.cu := by
  unfold enterArray; split <;> rfl
@[simp] theorem enterArray_tf (s : State) : (enterArray s).tf = s.tf := by
  unfold enterArray; split <;> rfl
@[simp] theorem enterArray_rd (s : State) : (enterArray s).rd = s.rd := by
  unfold enterArray; split <;> rfl
@[simp] theorem enterArray_pl (s : State) : (enterArray s).pl = s.pl := by
  unfold enterArray; split <;> rfl
@[simp] theorem enterArray_host (s : State) : (enterArray s).host = s.host := by
  unfold enterArray; split <;> rfl
@[simp] theorem enterArray_cur (s : State) :
    (enterArray s).te.cur = s.te.cur := by
  unfold enterArray; split <;> rfl
@[simp] theorem enterArray_fsq (s : State) :
    (enterArray s).te.fsq = s.te.fsq := by
  unfold enterArray; split <;> rfl
@[simp] theorem enterArray_li (s : State) :
    (enterArray s).te.li = if s.te.li = 0 then 1 else s.te.li := by
  unfold enterArray; split <;> rfl
@[simp] theorem enterArray_n (s : State) : (enterArray s).te.n = s.te.n := by
  unfold enterArray; split <;> rfl
@[simp] theorem enterArray_tn (s : State) :
    (enterArray s).te.tn = s.te.tn := by
  unfold enterArray; split <;> rfl
@[simp] theorem enterArray_snap (s : State) :
    (enterArray s).te.snap = s.te.snap := by
  unfold enterArray; split <;> rfl
@[simp] theorem enterArray_snapCnt (s : State) :
    (enterArray s).te.snapCnt = s.te.snapCnt := by
  unfold enterArray; split <;> rfl
@[simp] theorem enterArray_tdValid (s : State) :
    (enterArray s).te.tdValid = s.te.tdValid := by
  unfold enterArray; split <;> rfl
@[simp] theorem enterArray_tdErr (s : State) :
    (enterArray s).te.tdErr = s.te.tdErr := by
  unfold enterArray; split <;> rfl
@[simp] theorem enterArray_tdCause (s : State) :
    (enterArray s).te.tdCause = s.te.tdCause := by
  unfold enterArray; split <;> rfl

/-! `startDecode` -/

@[simp] theorem startDecode_cu (s : State) : (startDecode s).cu = s.cu := rfl
@[simp] theorem startDecode_tf (s : State) : (startDecode s).tf = s.tf := rfl
@[simp] theorem startDecode_rd (s : State) : (startDecode s).rd = s.rd := rfl
@[simp] theorem startDecode_pl (s : State) : (startDecode s).pl = s.pl := rfl
@[simp] theorem startDecode_host (s : State) : (startDecode s).host = s.host := rfl
@[simp] theorem startDecode_cur (s : State) : (startDecode s).te.cur = 0 := rfl
@[simp] theorem startDecode_fsq (s : State) : (startDecode s).te.fsq = 0 := rfl
@[simp] theorem startDecode_li (s : State) : (startDecode s).te.li = 0 := rfl
@[simp] theorem startDecode_n (s : State) : (startDecode s).te.n = 0 := rfl
@[simp] theorem startDecode_tn (s : State) : (startDecode s).te.tn = 0 := rfl
@[simp] theorem startDecode_snap (s : State) : (startDecode s).te.snap = [] := rfl
@[simp] theorem startDecode_snapCnt (s : State) : (startDecode s).te.snapCnt = 0 := rfl
@[simp] theorem startDecode_tdValid (s : State) : (startDecode s).te.tdValid = false := rfl
@[simp] theorem startDecode_tdErr (s : State) : (startDecode s).te.tdErr = false := rfl
@[simp] theorem startDecode_tdCause (s : State) : (startDecode s).te.tdCause = 0 := rfl

/-! `resetBlock` -/

@[simp] theorem resetBlock_cu (s : State) : (resetBlock s).cu = State.reset.cu := rfl
@[simp] theorem resetBlock_tf (s : State) : (resetBlock s).tf = State.reset.tf := rfl
@[simp] theorem resetBlock_rd (s : State) : (resetBlock s).rd = State.reset.rd := rfl
@[simp] theorem resetBlock_pl (s : State) : (resetBlock s).pl = State.reset.pl := rfl
@[simp] theorem resetBlock_te (s : State) : (resetBlock s).te = State.reset.te := rfl
@[simp] theorem resetBlock_host (s : State) : (resetBlock s).host = s.host := rfl

end Sys2Proof.Machine
end

