-- ==== Sys2Proof/Laws/Ops.lean ====
section
/-!
SUPPORT. What each shared operation can do, said once: reporting, taking a fault, chaining, sequences,
and the effects of the four units.
-/

namespace Sys2Proof.Machine

/-! ## Reporting -/

@[simp] theorem report_done (s t : State) (r : Result) : report s (.done t r) = .next (answer r t) := rfl
@[simp] theorem report_raised (s t : State) (f : BlockFault) :
    report s (.raised f t) = .next (takeFault f t) := rfl
@[simp] theorem report_refused (s : State) (why : RefusalReason) :
    report s (.refused why) = .next (answer (.refused why) s) := rfl
@[simp] theorem report_stopped (s : State) (why : Fault) : report s (.stopped why) = .fault why := rfl

/-- Everything a reported operation can answer. -/
theorem report_cases {s t : State} {e : Effect} (h : report s e = .next t) :
    (∃ u r, e = .done u r ∧ t = answer r u) ∨ (∃ f u, e = .raised f u ∧ t = takeFault f u) ∨
      ∃ why, e = .refused why ∧ t = answer (.refused why) s := by
  cases e with
  | done u r => exact .inl ⟨u, r, rfl, by simpa using h.symm⟩
  | raised f u => exact .inr (.inl ⟨f, u, rfl, by simpa using h.symm⟩)
  | refused why => exact .inr (.inr ⟨why, rfl, by simpa using h.symm⟩)
  | stopped why => simp at h

/-- A reported operation ends in a next state unless the model stops. -/
theorem report_next_iff {s : State} {e : Effect} :
    (∃ t, report s e = .next t) ↔ ∀ why, e ≠ .stopped why := by
  cases e <;> simp

/-! ## Taking a fault -/

/-- `takeFault` is the unit's status and the result, and nothing else. -/
theorem takeFault_eq (f : BlockFault) (s : State) : takeFault f s = answer (.fault f) (recordFault f s) := rfl

@[simp] theorem recordFault_cu (f : BlockFault) (s : State) : (recordFault f s).cu = s.cu := by cases f <;> rfl
@[simp] theorem recordFault_pl (f : BlockFault) (s : State) : (recordFault f s).pl = s.pl := by cases f <;> rfl
@[simp] theorem recordFault_host (f : BlockFault) (s : State) : (recordFault f s).host = s.host := by cases f <;> rfl

/-! ## Chaining -/

@[simp] theorem andThen_done (s : State) (r : Result) (f : State → Effect) : (Effect.done s r).andThen f = f s := rfl
@[simp] theorem andThen_raised (w : BlockFault) (s : State) (f : State → Effect) :
    (Effect.raised w s).andThen f = .raised w s := rfl
@[simp] theorem andThen_refused (why : RefusalReason) (f : State → Effect) :
    (Effect.refused why).andThen f = .refused why := rfl
@[simp] theorem andThen_stopped (why : Fault) (f : State → Effect) :
    (Effect.stopped why).andThen f = .stopped why := rfl

/-- Chaining is associative. -/
theorem andThen_assoc (e : Effect) (f g : State → Effect) :
    (e.andThen f).andThen g = e.andThen fun t => (f t).andThen g := by cases e <;> rfl

/-- What a chained effect can be. -/
theorem andThen_cases (e : Effect) (f : State → Effect) :
    (∃ t r, e = .done t r ∧ e.andThen f = f t) ∨ ((∀ t r, e ≠ .done t r) ∧ e.andThen f = e) := by
  cases e <;> simp

/-! ## Sequences -/

@[simp] theorem runAll_nil (s : State) : runAll [] s = .next s := rfl

/-- The first operation of a sequence, then the rest. -/
theorem runAll_cons_of_next {f : State → Host.Outcome State Fault Refusal}
    {fs : List (State → Host.Outcome State Fault Refusal)} {s t : State} (h : f s = .next t) :
    runAll (f :: fs) s = runAll fs t := by simp [runAll, h]

/-- A sequence that ends in a next state went through one after its first operation. -/
theorem runAll_cons_cases {f : State → Host.Outcome State Fault Refusal}
    {fs : List (State → Host.Outcome State Fault Refusal)} {s t : State} (h : runAll (f :: fs) s = .next t) :
    ∃ u, f s = .next u ∧ runAll fs u = .next t := by
  simp only [runAll] at h
  split at h
  · next u hu => exact ⟨u, hu, h⟩
  · cases h
  · cases h

/-- A sequence in two parts. -/
theorem runAll_append_of_next {fs gs : List (State → Host.Outcome State Fault Refusal)} {s t : State}
    (h : runAll fs s = .next t) : runAll (fs ++ gs) s = runAll gs t := by
  induction fs generalizing s with
  | nil => simp at h; subst h; rfl
  | cons f fs ih =>
    obtain ⟨u, hu, ht⟩ := runAll_cons_cases h
    rw [List.cons_append, runAll_cons_of_next hu, ih ht]

/-- What every operation of a sequence keeps, the sequence keeps. -/
theorem runAll_keeps {P : State → Prop} {fs : List (State → Host.Outcome State Fault Refusal)}
    (hk : ∀ f ∈ fs, ∀ s t, P s → f s = .next t → P t) {s t : State} (hs : P s) (h : runAll fs s = .next t) :
    P t := by
  induction fs generalizing s with
  | nil => simp at h; exact h ▸ hs
  | cons f fs ih =>
    obtain ⟨u, hu, ht⟩ := runAll_cons_cases h
    exact ih (fun g hg => hk g (by simp [hg])) (hk f (by simp) s u hs hu) ht

/-! ## The framer -/

/-- Everything the emission of a frame can do. -/
theorem txBuildEffect_cases (cmd : Word) (addr : Byte) (plen : BitVec 8) (s : State) :
    (250 < plen.toNat ∧ txBuildEffect cmd addr plen s = .raised (.lengthOverflow plen) (clearTxStatus s)) ∨
    (plen.toNat ≤ 250 ∧ memSpan s.tf.pbuf 0 plen.toNat = none ∧
      txBuildEffect cmd addr plen s = .refused .unwrittenRead) ∨
    ∃ p, plen.toNat ≤ 250 ∧ memSpan s.tf.pbuf 0 plen.toNat = some p ∧
      txBuildEffect cmd addr plen s =
        .done (setTxDone (emit (buildFrame cmd p addr) (clearTxStatus s))) .ok := by
  unfold txBuildEffect
  by_cases h : plen.toNat ≤ 250
  · have hok : plenOk plen = true := decide_eq_true h
    rw [if_pos hok]
    cases hp : memSpan s.tf.pbuf 0 plen.toNat with
    | none => exact .inr (.inl ⟨h, rfl, rfl⟩)
    | some p => exact .inr (.inr ⟨p, h, rfl, rfl⟩)
  · have hok : ¬plenOk plen = true := fun e => h (of_decide_eq_true e)
    rw [if_neg hok]
    exact .inl ⟨by omega, rfl⟩

/-- Everything `TX.LOAD` can do. -/
theorem txLoadEffect_cases (i : BitVec 16) (b : Byte) (s : State) :
    (i.toNat ≤ 249 ∧ txLoadEffect i b s = .done (setPbuf i.toNat b s) .ok) ∨
    (249 < i.toNat ∧ txLoadEffect i b s = .refused .indexRange) := by
  unfold txLoadEffect pbufIndexOk
  by_cases h : i.toNat ≤ Config.pmax - 1
  · exact .inl ⟨h, if_pos (decide_eq_true h)⟩
  · exact .inr ⟨Nat.lt_of_not_le h, if_neg fun e => h (of_decide_eq_true e)⟩

/-- Everything the sending of a frame as one object can do. -/
theorem sendFrameEffect_cases (cmd : Word) (addr : Byte) (ps : List Byte) (s : State) :
    (ps.length ≤ 250 ∧ sendFrameEffect cmd addr ps s =
      .done (setTxDone (emit (buildFrame cmd ps addr) (clearTxStatus s))) .ok) ∨
    (250 < ps.length ∧ sendFrameEffect cmd addr ps s =
      .raised (.lengthOverflow (BitVec.ofNat 8 ps.length)) (clearTxStatus s)) := by
  unfold sendFrameEffect
  by_cases h : ps.length ≤ Config.pmax
  · exact .inl ⟨h, if_pos h⟩
  · exact .inr ⟨Nat.lt_of_not_le h, if_neg h⟩

/-! ## The deframer -/

/-- Everything an envelope byte can do. -/
theorem rxEnvelopeByte_cases (b : Byte) (s : State) :
    ((takeEnvelope b s).rd.rxCnt.toNat ≠ 6 ∧ rxEnvelopeByte b s = .done (takeEnvelope b s) .ok) ∨
    ((takeEnvelope b s).rd.rxCnt.toNat = 6 ∧ (takeEnvelope b s).rd.rxL.toNat < 4 ∧
      rxEnvelopeByte b s = .raised (.shortFrame ((takeEnvelope b s).rd.rxL.setWidth 9))
        (setRxs .fault (takeEnvelope b s))) ∨
    ((takeEnvelope b s).rd.rxCnt.toNat = 6 ∧ 4 ≤ (takeEnvelope b s).rd.rxL.toNat ∧
      rxEnvelopeByte b s = .done (announcePayload (takeEnvelope b s)) .ok) := by
  unfold rxEnvelopeByte
  by_cases h : (takeEnvelope b s).rd.rxCnt.toNat = Config.rxSkip
  · by_cases hl : (takeEnvelope b s).rd.rxL.toNat < Config.rxLenAdj
    · exact .inr (.inl ⟨h, hl, by simp only [if_pos h, if_pos hl]⟩)
    · exact .inr (.inr ⟨h, Nat.le_of_not_lt hl, by simp only [if_pos h, if_neg hl]⟩)
  · exact .inl ⟨h, by simp only [if_neg h]⟩

/-- Everything `RX.BYTE` can do. -/
theorem rxByteEffect_cases (b : Byte) (s : State) :
    (s.rd.rxs = .idle ∧ rxByteEffect b s = .done (takeEnvelope b (startFrame s)) .ok) ∨
    (s.rd.rxs = .env ∧ rxByteEffect b s = rxEnvelopeByte b s) ∨
    (s.rd.rxs = .pay ∧ s.pl.plLen.toNat < 1069 ∧ rxByteEffect b s = .done (storePayload b s) .ok) ∨
    (s.rd.rxs = .pay ∧ 1069 ≤ s.pl.plLen.toNat ∧
      rxByteEffect b s = .stopped (.outsideSpace .plbuf s.pl.plLen.toNat)) ∨
    ((s.rd.rxs = .tail ∨ s.rd.rxs = .fault) ∧ rxByteEffect b s = .done s .ok) := by
  unfold rxByteEffect
  cases h : s.rd.rxs
  · left
    refine ⟨rfl, ?_⟩
    rcases rxEnvelopeByte_cases b (startFrame s) with ⟨-, h⟩ | ⟨h, -⟩ | ⟨h, -⟩
    · exact h
    · simp at h
    · simp at h
  · simp
  · right; right
    unfold rxPayloadByte
    by_cases hp : s.pl.plLen.toNat < Config.plMax
    · exact .inl ⟨rfl, hp, by rw [if_pos hp]⟩
    · exact .inr (.inl ⟨rfl, Nat.le_of_not_lt hp, by rw [if_neg hp]⟩)
  · simp
  · simp

/-- Everything `RX.END` can do. -/
theorem rxEndEffect_cases (s : State) :
    (s.rd.rxs = .tail ∧ rxEndEffect s = .done (setRxs .idle (setRxDone s)) .ok) ∨
    ((s.rd.rxs = .pay ∨ s.rd.rxs = .env) ∧
      rxEndEffect s = .raised (.shortFrame s.rd.rxCnt) (setRxs .idle (setPlLen 0 s))) ∨
    (s.rd.rxs = .fault ∧ rxEndEffect s = .done (setRxs .idle s) .ok) ∨
    (s.rd.rxs = .idle ∧
      rxEndEffect s = .raised (.shortFrame 0) (setPlLen 0 (clearRxCounts (clearRxStatus s)))) := by
  unfold rxEndEffect
  cases h : s.rd.rxs <;> simp [endShort]

/-- Everything `PL.WRITE` can do. -/
theorem plWriteEffect_cases (i : BitVec 16) (b : Byte) (s : State) :
    (s.rd.rxs ≠ .idle ∧ plWriteEffect i b s = .refused .frameInProgress) ∨
    (s.rd.rxs = .idle ∧ i.toNat ≤ 1068 ∧ plWriteEffect i b s = .done (setPlbuf i.toNat b s) .ok) ∨
    (s.rd.rxs = .idle ∧ 1068 < i.toNat ∧ plWriteEffect i b s = .refused .indexRange) := by
  unfold plWriteEffect plbufIndexOk
  by_cases hs : s.rd.rxs = .idle
  · rw [if_neg (not_not.mpr hs)]
    by_cases h : i.toNat ≤ Config.plMax - 1
    · exact .inr (.inl ⟨hs, h, if_pos (decide_eq_true h)⟩)
    · exact .inr (.inr ⟨hs, Nat.lt_of_not_le h, if_neg fun e => h (of_decide_eq_true e)⟩)
  · exact .inl ⟨hs, if_pos hs⟩

/-- Everything `PL.SETLEN` can do. -/
theorem plSetlenEffect_cases (n : BitVec 16) (s : State) :
    (s.rd.rxs ≠ .idle ∧ plSetlenEffect n s = .refused .frameInProgress) ∨
    (s.rd.rxs = .idle ∧ n.toNat ≤ 1069 ∧ memSpan s.pl.plbuf 0 n.toNat = none ∧
      plSetlenEffect n s = .refused .unwrittenRead) ∨
    (s.rd.rxs = .idle ∧ n.toNat ≤ 1069 ∧ (memSpan s.pl.plbuf 0 n.toNat).isSome ∧
      plSetlenEffect n s = .done (setPlLen (n.setWidth 11) s) .ok) ∨
    (s.rd.rxs = .idle ∧ 1069 < n.toNat ∧ plSetlenEffect n s = .refused .indexRange) := by
  unfold plSetlenEffect plLenOk
  by_cases hs : s.rd.rxs = .idle
  · rw [if_neg (not_not.mpr hs)]
    by_cases h : n.toNat ≤ Config.plMax
    · rw [if_pos (decide_eq_true h)]
      cases hm : memSpan s.pl.plbuf 0 n.toNat with
      | none => exact .inr (.inl ⟨hs, h, rfl, rfl⟩)
      | some p => exact .inr (.inr (.inl ⟨hs, h, rfl, rfl⟩))
    · exact .inr (.inr (.inr ⟨hs, Nat.lt_of_not_le h, if_neg fun e => h (of_decide_eq_true e)⟩))
  · exact .inl ⟨hs, if_pos hs⟩

/-! ## The extractor -/

/-- Everything stages S1 to S5 can do. -/
theorem runStages_cases (d : Descriptor) (idx : BitVec 8) (s : State) :
    (s.pl.plLen.toNat < s.te.cur.toNat + d.width.bytes ∧
      runStages d idx s = .raised (.truncatedPayload s.te.fsq s.te.li s.te.cur) s) ∨
    (s.te.cur.toNat + d.width.bytes ≤ s.pl.plLen.toNat ∧
      fetchRaw d.width s.pl.plbuf s.te.cur.toNat = none ∧
      runStages d idx s = .stopped (.unwrittenElement .plbuf s.te.cur.toNat)) ∨
    (s.te.cur.toNat + d.width.bytes ≤ s.pl.plLen.toNat ∧ 543 ≤ s.te.snapCnt.toNat ∧
      runStages d idx s = .stopped (.outsideSpace .snap s.te.snapCnt.toNat)) ∨
    ∃ sr, s.te.cur.toNat + d.width.bytes ≤ s.pl.plLen.toNat ∧ s.te.snapCnt.toNat < 543 ∧
      fetchRaw d.width s.pl.plbuf s.te.cur.toNat = some sr ∧
      runStages d idx s =
        .done (appendEntry (entryOf d idx sr) (latchCount d.latch sr (moveCursor d.width s))) .ok := by
  unfold runStages
  by_cases h : s.pl.plLen.toNat < s.te.cur.toNat + d.width.bytes
  · exact .inl ⟨h, by rw [if_pos h]⟩
  · right
    rw [if_neg h]
    cases hf : fetchRaw d.width s.pl.plbuf s.te.cur.toNat with
    | none => exact .inl ⟨by omega, rfl, rfl⟩
    | some sr =>
      by_cases hc : s.te.snapCnt.toNat < Config.snapMax
      · exact .inr (.inr ⟨sr, by omega, hc, rfl, by simp only [if_pos hc]⟩)
      · exact .inr (.inl ⟨by omega, Nat.le_of_not_lt hc, by simp only [if_neg hc]⟩)

/-- Everything one pass of an array descriptor can do, in terms of its stages. -/
theorem arrayPass_cases (d : Descriptor) (count : BitVec 8) (s : State) :
    (count = 0 ∧ arrayPass d count s = .done (nextDescriptor s) .ok) ∨
    (count ≠ 0 ∧ arrayPass d count s =
      (runStages d (enterArray s).te.li (enterArray s)).andThen fun t => .done (nextElement count t) .ok) := by
  unfold arrayPass
  by_cases h : count = 0
  · exact .inl ⟨h, if_pos h⟩
  · exact .inr ⟨h, if_neg h⟩

/-- What holds of the state an effect ends in, where it ends in one. -/
def Effect.All (P : State → Prop) : Effect → Prop
  | .done t _ => P t
  | .raised _ t => P t
  | .refused _ => True
  | .stopped _ => True

/-- Chaining keeps what both parts keep. -/
theorem andThen_all {P Q : State → Prop} {e : Effect} {f : State → Effect} (he : e.All P)
    (hr : ∀ t, P t → Q t) (hf : ∀ t, P t → (f t).All Q) : (e.andThen f).All Q := by
  cases e with
  | done t r => exact hf t he
  | raised w t => exact hr t he
  | refused why => trivial
  | stopped why => trivial

/-- What each pass of a descriptor keeps, its passes together keep. -/
theorem repeatPass_all {P : State → Prop} {d : Descriptor} (h : ∀ s, P s → (descriptorPass d s).All P)
    (k : Nat) {s : State} (hs : P s) : (repeatPass d k s).All P := by
  induction k generalizing s with
  | zero => exact hs
  | succ k ih => exact andThen_all (h s hs) (fun _ ht => ht) fun t ht => ih ht

/-- What each pass of each descriptor keeps, the whole walk keeps. -/
theorem runDescriptors_all {P : State → Prop} (ds : List Descriptor)
    (h : ∀ d ∈ ds, ∀ s, P s → (descriptorPass d s).All P) {s : State} (hs : P s) :
    (runDescriptors ds s).All P := by
  induction ds generalizing s with
  | nil => exact hs
  | cons d ds ih =>
    exact andThen_all (repeatPass_all (h d (by simp)) _ hs) (fun _ ht => ht) fun t ht =>
      ih (fun e he => h e (by simp [he])) ht

/-- One pass of a descriptor touches the extractor alone. -/
theorem descriptorPass_frame (d : Descriptor) (s : State) :
    (descriptorPass d s).All fun t => t.cu = s.cu ∧ t.tf = s.tf ∧ t.rd = s.rd ∧ t.pl = s.pl ∧ t.host = s.host := by
  have stages : ∀ idx u, (runStages d idx u).All fun t =>
      t.cu = u.cu ∧ t.tf = u.tf ∧ t.rd = u.rd ∧ t.pl = u.pl ∧ t.host = u.host := by
    intro idx u
    rcases runStages_cases d idx u with ⟨-, h⟩ | ⟨-, -, h⟩ | ⟨-, -, h⟩ | ⟨sr, -, -, -, h⟩ <;> rw [h] <;>
      simp [Effect.All]
  have array : ∀ c, (arrayPass d c s).All fun t =>
      t.cu = s.cu ∧ t.tf = s.tf ∧ t.rd = s.rd ∧ t.pl = s.pl ∧ t.host = s.host := by
    intro c
    rcases arrayPass_cases d c s with ⟨-, h⟩ | ⟨-, h⟩ <;> rw [h]
    · simp [Effect.All]
    · exact andThen_all (stages _ _) (by simp) (by simp [Effect.All])
  unfold descriptorPass
  cases d.rep
  · exact andThen_all (stages _ _) (fun _ h => h) (by simp [Effect.All])
  · exact array _
  · exact array _

/-- Everything `TD.READ` can do. -/
theorem tdReadEffect_cases (k : BitVec 16) (s : State) :
    (s.te.tdValid = false ∧ tdReadEffect k s = .refused .snapshotNotValid) ∨
    (s.te.tdValid = true ∧ s.te.snapCnt.toNat ≤ k.toNat ∧ tdReadEffect k s = .refused .indexRange) ∨
    (s.te.tdValid = true ∧ k.toNat < s.te.snapCnt.toNat ∧
      ((∃ x, s.te.snap[k.toNat]? = some x ∧ tdReadEffect k s = .done s (.entry x)) ∨
        (s.te.snap[k.toNat]? = none ∧ tdReadEffect k s = .stopped (.unwrittenElement .snap k.toNat)))) := by
  unfold tdReadEffect
  cases hv : s.te.tdValid
  · simp
  · by_cases hk : s.te.snapCnt.toNat ≤ k.toNat
    · simp [hk]
    · refine .inr (.inr ⟨rfl, by omega, ?_⟩)
      rw [if_neg (by simp), if_neg hk]
      cases hx : s.te.snap[k.toNat]? with
      | some x => exact .inl ⟨x, rfl, rfl⟩
      | none => exact .inr ⟨rfl, rfl⟩

end Sys2Proof.Machine
end

