-- ==== Sys2Proof/Laws/PerInstr.lean ====
section
/-!
SUPPORT. Statements made for every instruction, one lemma per constructor.
-/

namespace Sys2Proof.Laws

/-- Every operation of a pseudo-operation's expansion from an index on has a command word. -/
theorem loadOps_have_words (i : Nat) (ps : List Byte) : ∀ j ∈ loadOps i ps, (encodeWord j).isSome = true := by
  induction ps generalizing i with
  | nil => simp [loadOps]
  | cons p ps ih => simpa [loadOps, encodeWord] using ih (i + 1)

/-- The same of `PL.WRITE`. -/
theorem writeOps_have_words (i : Nat) (ps : List Byte) : ∀ j ∈ writeOps i ps, (encodeWord j).isSome = true := by
  induction ps generalizing i with
  | nil => simp [writeOps]
  | cons p ps ih => simpa [writeOps, encodeWord] using ih (i + 1)

/-- An instruction's encoding is in the format of its row of the opcode table, and a pseudo-operation's
expansion is made of operations that have a command word each, so that its encoding drops none
(30_encoding.md R70, R92). -/
def EncodesInItsFormat.Statement (i : Instr) : Prop :=
  (encode i).format = i.format ∧ (i.format = .pseudo → ∀ j ∈ expand i, (encodeWord j).isSome = true)

theorem EncodesInItsFormat.crcInit :
    EncodesInItsFormat.Statement .crcInit :=
  ⟨rfl, nofun⟩

theorem EncodesInItsFormat.crcByte (b : Byte) :
    EncodesInItsFormat.Statement (.crcByte b) :=
  ⟨rfl, nofun⟩

theorem EncodesInItsFormat.crcRead :
    EncodesInItsFormat.Statement .crcRead :=
  ⟨rfl, nofun⟩

theorem EncodesInItsFormat.reserved3 :
    EncodesInItsFormat.Statement .reserved3 :=
  ⟨rfl, nofun⟩

theorem EncodesInItsFormat.txLoad (i : BitVec 16) (b : Byte) :
    EncodesInItsFormat.Statement (.txLoad i b) :=
  ⟨rfl, nofun⟩

theorem EncodesInItsFormat.txBuild (cmd : Word) (addr : Byte) (plen : BitVec 8) :
    EncodesInItsFormat.Statement (.txBuild cmd addr plen) :=
  ⟨rfl, nofun⟩

theorem EncodesInItsFormat.reserved6 :
    EncodesInItsFormat.Statement .reserved6 :=
  ⟨rfl, nofun⟩

theorem EncodesInItsFormat.reserved7 :
    EncodesInItsFormat.Statement .reserved7 :=
  ⟨rfl, nofun⟩

theorem EncodesInItsFormat.rxByte (b : Byte) :
    EncodesInItsFormat.Statement (.rxByte b) :=
  ⟨rfl, nofun⟩

theorem EncodesInItsFormat.rxEnd :
    EncodesInItsFormat.Statement .rxEnd :=
  ⟨rfl, nofun⟩

theorem EncodesInItsFormat.plWrite (i : BitVec 16) (b : Byte) :
    EncodesInItsFormat.Statement (.plWrite i b) :=
  ⟨rfl, nofun⟩

theorem EncodesInItsFormat.plSetlen (n : BitVec 16) :
    EncodesInItsFormat.Statement (.plSetlen n) :=
  ⟨rfl, nofun⟩

theorem EncodesInItsFormat.tdDecode :
    EncodesInItsFormat.Statement .tdDecode :=
  ⟨rfl, nofun⟩

theorem EncodesInItsFormat.tdRead (k : BitVec 16) :
    EncodesInItsFormat.Statement (.tdRead k) :=
  ⟨rfl, nofun⟩

theorem EncodesInItsFormat.reservedE :
    EncodesInItsFormat.Statement .reservedE :=
  ⟨rfl, nofun⟩

theorem EncodesInItsFormat.sysReset :
    EncodesInItsFormat.Statement .sysReset :=
  ⟨rfl, nofun⟩

theorem EncodesInItsFormat.txRead1 :
    EncodesInItsFormat.Statement .txRead1 :=
  ⟨rfl, nofun⟩

theorem EncodesInItsFormat.crcBlock (bs : List Byte) :
    EncodesInItsFormat.Statement (.crcBlock bs) :=
  ⟨rfl, fun _ j hj => by
    simp only [expand, List.mem_cons, List.mem_append, List.mem_map, List.not_mem_nil, or_false] at hj
    rcases hj with rfl | ⟨b, -, rfl⟩ | rfl <;> rfl⟩

theorem EncodesInItsFormat.txPayload (ps : List Byte) :
    EncodesInItsFormat.Statement (.txPayload ps) :=
  ⟨rfl, fun _ => loadOps_have_words 0 ps⟩

theorem EncodesInItsFormat.txFrame (cmd : Word) (addr : Byte) (ps : List Byte) :
    EncodesInItsFormat.Statement (.txFrame cmd addr ps) :=
  ⟨rfl, fun _ j hj => by
    simp only [expand, List.mem_append, List.mem_singleton] at hj
    rcases hj with hj | rfl
    · exact loadOps_have_words 0 ps j hj
    · rfl⟩

theorem EncodesInItsFormat.rxFrame (fs : List Byte) :
    EncodesInItsFormat.Statement (.rxFrame fs) :=
  ⟨rfl, fun _ j hj => by
    simp only [expand, List.mem_append, List.mem_map, List.mem_singleton] at hj
    rcases hj with ⟨b, -, rfl⟩ | rfl <;> rfl⟩

theorem EncodesInItsFormat.plLoad (ps : List Byte) :
    EncodesInItsFormat.Statement (.plLoad ps) :=
  ⟨rfl, fun _ j hj => by
    simp only [expand, List.mem_append, List.mem_singleton] at hj
    rcases hj with hj | rfl
    · exact writeOps_have_words 0 ps j hj
    · rfl⟩

theorem EncodesInItsFormat.decodePayload (ps : List Byte) :
    EncodesInItsFormat.Statement (.decodePayload ps) :=
  ⟨rfl, fun _ j hj => by
    simp only [expand, List.mem_append, List.mem_cons, List.not_mem_nil, or_false] at hj
    rcases hj with hj | rfl | rfl
    · exact writeOps_have_words 0 ps j hj
    · rfl
    · rfl⟩

theorem EncodesInItsFormat.txf (cmd : Word) (addr : Byte) (ps : List Byte) :
    EncodesInItsFormat.Statement (.txf cmd addr ps) :=
  ⟨rfl, nofun⟩

theorem EncodesInItsFormat.rxf (fs : List Byte) :
    EncodesInItsFormat.Statement (.rxf fs) :=
  ⟨rfl, nofun⟩

theorem EncodesInItsFormat.onlineStatus :
    EncodesInItsFormat.Statement .onlineStatus :=
  ⟨rfl, nofun⟩

theorem EncodesInItsFormat.batteriesSeriesNumber :
    EncodesInItsFormat.Statement .batteriesSeriesNumber :=
  ⟨rfl, nofun⟩

theorem EncodesInItsFormat.cellIVoltage :
    EncodesInItsFormat.Statement .cellIVoltage :=
  ⟨rfl, nofun⟩

theorem EncodesInItsFormat.maxCellNumber :
    EncodesInItsFormat.Statement .maxCellNumber :=
  ⟨rfl, nofun⟩

theorem EncodesInItsFormat.maxCellVoltage :
    EncodesInItsFormat.Statement .maxCellVoltage :=
  ⟨rfl, nofun⟩

theorem EncodesInItsFormat.minCellNumber :
    EncodesInItsFormat.Statement .minCellNumber :=
  ⟨rfl, nofun⟩

theorem EncodesInItsFormat.minCellVoltage :
    EncodesInItsFormat.Statement .minCellVoltage :=
  ⟨rfl, nofun⟩

theorem EncodesInItsFormat.totalCurrent :
    EncodesInItsFormat.Statement .totalCurrent :=
  ⟨rfl, nofun⟩

theorem EncodesInItsFormat.soc :
    EncodesInItsFormat.Statement .soc :=
  ⟨rfl, nofun⟩

theorem EncodesInItsFormat.soh :
    EncodesInItsFormat.Statement .soh :=
  ⟨rfl, nofun⟩

theorem EncodesInItsFormat.actualCapacity :
    EncodesInItsFormat.Statement .actualCapacity :=
  ⟨rfl, nofun⟩

theorem EncodesInItsFormat.surplusCapacity :
    EncodesInItsFormat.Statement .surplusCapacity :=
  ⟨rfl, nofun⟩

theorem EncodesInItsFormat.nominalCapacity :
    EncodesInItsFormat.Statement .nominalCapacity :=
  ⟨rfl, nofun⟩

theorem EncodesInItsFormat.batteriesTemperatureNumber :
    EncodesInItsFormat.Statement .batteriesTemperatureNumber :=
  ⟨rfl, nofun⟩

theorem EncodesInItsFormat.cellTemperatureI :
    EncodesInItsFormat.Statement .cellTemperatureI :=
  ⟨rfl, nofun⟩

theorem EncodesInItsFormat.environmentalTemperature :
    EncodesInItsFormat.Statement .environmentalTemperature :=
  ⟨rfl, nofun⟩

theorem EncodesInItsFormat.pcbTemperature :
    EncodesInItsFormat.Statement .pcbTemperature :=
  ⟨rfl, nofun⟩

theorem EncodesInItsFormat.maxTemperatureCellNumber :
    EncodesInItsFormat.Statement .maxTemperatureCellNumber :=
  ⟨rfl, nofun⟩

theorem EncodesInItsFormat.maxTemperatureCellValue :
    EncodesInItsFormat.Statement .maxTemperatureCellValue :=
  ⟨rfl, nofun⟩

theorem EncodesInItsFormat.minTemperatureCellNumber :
    EncodesInItsFormat.Statement .minTemperatureCellNumber :=
  ⟨rfl, nofun⟩

theorem EncodesInItsFormat.minTemperatureCellValue :
    EncodesInItsFormat.Statement .minTemperatureCellValue :=
  ⟨rfl, nofun⟩

theorem EncodesInItsFormat.fault1 :
    EncodesInItsFormat.Statement .fault1 :=
  ⟨rfl, nofun⟩

theorem EncodesInItsFormat.fault2 :
    EncodesInItsFormat.Statement .fault2 :=
  ⟨rfl, nofun⟩

theorem EncodesInItsFormat.alert1 :
    EncodesInItsFormat.Statement .alert1 :=
  ⟨rfl, nofun⟩

theorem EncodesInItsFormat.alert2 :
    EncodesInItsFormat.Statement .alert2 :=
  ⟨rfl, nofun⟩

theorem EncodesInItsFormat.alert3 :
    EncodesInItsFormat.Statement .alert3 :=
  ⟨rfl, nofun⟩

theorem EncodesInItsFormat.alert4 :
    EncodesInItsFormat.Statement .alert4 :=
  ⟨rfl, nofun⟩

theorem EncodesInItsFormat.cycleIndex :
    EncodesInItsFormat.Statement .cycleIndex :=
  ⟨rfl, nofun⟩

theorem EncodesInItsFormat.totalVoltage :
    EncodesInItsFormat.Statement .totalVoltage :=
  ⟨rfl, nofun⟩

theorem EncodesInItsFormat.status :
    EncodesInItsFormat.Statement .status :=
  ⟨rfl, nofun⟩

theorem EncodesInItsFormat.totalChargingCapacity :
    EncodesInItsFormat.Statement .totalChargingCapacity :=
  ⟨rfl, nofun⟩

theorem EncodesInItsFormat.totalDischargeCapacity :
    EncodesInItsFormat.Statement .totalDischargeCapacity :=
  ⟨rfl, nofun⟩

theorem EncodesInItsFormat.totalRechargeTime :
    EncodesInItsFormat.Statement .totalRechargeTime :=
  ⟨rfl, nofun⟩

theorem EncodesInItsFormat.totalDischargeTime :
    EncodesInItsFormat.Statement .totalDischargeTime :=
  ⟨rfl, nofun⟩

theorem EncodesInItsFormat.batteryType :
    EncodesInItsFormat.Statement .batteryType :=
  ⟨rfl, nofun⟩

end Sys2Proof.Laws
end

