-- ==== Sys2Proof/Laws/Values.lean ====
section
/-!
SUPPORT. The operand forms and the field transform as numbers: bytes, the big-endian pair, the masks of
the descriptor table.
-/

namespace Sys2Proof.Machine

/-- A zero-extended byte is the byte's value. -/
@[simp] theorem zext16_toNat (b : Byte) : (zext16 b).toNat = b.toNat := by
  simp [zext16]; omega

/-- The big-endian pair as a number (R15, R53). -/
theorem u16be_toNat (b0 b1 : Byte) : (u16be b0 b1).toNat = 256 * b0.toNat + b1.toNat := by
  have h0 := b0.isLt
  have h1 := b1.isLt
  simp only [u16be, shiftIn, zext16, BitVec.toNat_or, BitVec.toNat_shiftLeft, BitVec.toNat_setWidth]
  rw [Nat.mod_eq_of_lt (by omega : b0.toNat < 2 ^ 16), Nat.mod_eq_of_lt (by omega : b1.toNat < 2 ^ 16)]
  simp only [BitVec.ofNat_eq_ofNat, BitVec.toNat_ofNat, Nat.zero_mod, Nat.zero_shiftLeft, Nat.zero_or]
  rw [Nat.mod_eq_of_lt (by rw [Nat.shiftLeft_eq]; omega), ← Nat.shiftLeft_add_eq_or_of_lt (by omega), Nat.shiftLeft_eq]
  omega

/-- The halves of a 16-bit value put together again. -/
theorem u16be_hi8_lo8 (v : Word) : u16be (hi8 v) (lo8 v) = v := by
  apply BitVec.eq_of_toNat_eq
  rw [u16be_toNat]
  simp [hi8, lo8, Nat.shiftRight_eq_div_pow]
  have := v.isLt
  omega

/-- `maskNone` masks nothing. -/
@[simp] theorem and_maskNone (v : Word) : v &&& Config.maskNone = v := by
  have h : Config.maskNone = BitVec.allOnes 16 := rfl
  rw [h, BitVec.and_allOnes]

/-- `MASK15` takes bit 15 away. -/
theorem and_mask15_toNat (v : Word) : (v &&& Config.mask15).toNat = v.toNat % 32768 := by
  rw [BitVec.toNat_and]
  exact Nat.and_two_pow_sub_one_eq_mod _ 15

/-- The entry of a field that is masked by nothing: its raw value less the offset. -/
theorem entryOf_maskNone {d : Descriptor} (h : d.mask = Config.maskNone) (idx : BitVec 8) (sr : Word) :
    entryOf d idx sr = ⟨d.fid, idx, (sr.toNat : Int) - d.off, d.e⟩ := by
  simp [entryOf, extract, h]

/-- The entry of a field masked by `MASK15`. -/
theorem entryOf_mask15 {d : Descriptor} (h : d.mask = Config.mask15) (idx : BitVec 8) (sr : Word) :
    entryOf d idx sr = ⟨d.fid, idx, ((sr.toNat % 32768 : Nat) : Int) - d.off, d.e⟩ := by
  simp only [entryOf, extract, h, and_mask15_toNat]

end Sys2Proof.Machine
end

