-- ==== Sys2Proof/Tests/Slice0.lean ====
section
/-!
SUPPORT. Tests with expected results from 95_test_vectors.md (the vector's name stands with each) or from
the encoding tables of 30_encoding.md, and for every statement with hypotheses a witness that meets them.
-/

set_option maxRecDepth 8000

open Sys2Proof Sys2Proof.Machine Sys2Proof.Claims

namespace Sys2Proof.Tests

/-! ## Helpers -/

/-- The next state, if there is one. -/
def after (o : Host.Outcome State Fault Refusal) : Option State :=
  match o with
  | .next s => some s
  | _ => none

/-- A buffer that holds some bytes from index 0 on. -/
def filled (bs : List Byte) : Memory := bs.zipIdx.map fun (b, i) => (i, b)

/-- The reset state with a payload loaded. -/
def withPayload (bs : List Byte) : State :=
  { State.reset with pl := { plbuf := filled bs, plLen := BitVec.ofNat 11 bs.length } }

/-- The reset state with the deframer somewhere. -/
def withRx (x : RxState) (cnt : BitVec 9) (l need : BitVec 8) : State :=
  { State.reset with rd := { State.reset.rd with rxs := x, rxCnt := cnt, rxL := l, rxNeed := need } }

/-- The reset state with `PBUF` filled. -/
def withPbuf (bs : List Byte) : State := { State.reset with tf := { State.reset.tf with pbuf := filled bs } }

/-- The last entry after an instruction that reads the payload `bs` from its first byte, counts 3 and 2. -/
def readField (i : Instr) (bs : List Byte) : Option Entry :=
  (after (exec i { withPayload bs with te := { State.reset.te with n := 3, tn := 2 } })).bind
    fun t => t.te.snap.getLast?

/-- Payload VA. -/
def payloadVA : List Byte := ((List.replicate 53 0).set 1 1).set 22 1

/-! ## Ill-formed terms are refused by the check -/

theorem test_wf_txBuild :
    Instr.wellFormed (.txBuild 1 0 0) = false ∧ Instr.wellFormed (.txBuild 1 0 1) = true := by decide

theorem test_wf_txPayload :
    Instr.wellFormed (.txPayload (List.replicate 65537 0)) = false ∧
    Instr.wellFormed (.txPayload (List.replicate 65536 0)) = true :=
  by
  simp only [Instr.wellFormed, List.length_replicate]; decide

theorem test_wf_txFrame :
    Instr.wellFormed (.txFrame 1 0 (List.replicate 256 0)) = false ∧
    Instr.wellFormed (.txFrame 1 0 (List.replicate 255 0)) = true :=
  by
  simp only [Instr.wellFormed, List.length_replicate]; decide

theorem test_wf_plLoad :
    Instr.wellFormed (.plLoad (List.replicate 65536 0)) = false ∧
    Instr.wellFormed (.plLoad (List.replicate 65535 0)) = true :=
  by
  simp only [Instr.wellFormed, List.length_replicate]; decide

theorem test_wf_decodePayload :
    Instr.wellFormed (.decodePayload (List.replicate 65536 0)) = false ∧
    Instr.wellFormed (.decodePayload (List.replicate 65535 0)) = true :=
  by
  simp only [Instr.wellFormed, List.length_replicate]; decide

theorem test_wf_txf :
    Instr.wellFormed (.txf 1 0 (List.replicate 251 0)) = false ∧
    Instr.wellFormed (.txf 1 0 (List.replicate 250 0)) = true :=
  by
  simp only [Instr.wellFormed, List.length_replicate]; decide

/-! ## Decoding: the words of R70 written out, `op` then `a`, `b`, `c`; unused fields are set in some -/

theorem test_decode_crcInit : decodeTableWord 36 0x0FFFFFFFF = some .crcInit := by decide

theorem test_decode_crcByte : decodeTableWord 36 0x1FFFF05FF = some (.crcByte 0x05) := by decide

theorem test_decode_crcRead : decodeTableWord 36 0x2FFFFFFFF = some .crcRead := by decide

theorem test_decode_reserved3 : decodeTableWord 36 0x300000000 = some .reserved3 := by decide

theorem test_decode_txLoad : decodeTableWord 36 0x400F9BBFF = some (.txLoad 249 0xBB) := by decide

theorem test_decode_txBuild : decodeTableWord 36 0x512340102 = some (.txBuild 0x1234 0x01 2) := by decide

theorem test_decode_reserved6 : decodeTableWord 36 0x6FFFFFFFF = some .reserved6 := by decide

theorem test_decode_reserved7 : decodeTableWord 36 0x700000001 = some .reserved7 := by decide

theorem test_decode_rxByte : decodeTableWord 36 0x8ABCDA7EF = some (.rxByte 0xA7) := by decide

theorem test_decode_rxEnd : decodeTableWord 36 0x900000000 = some .rxEnd := by decide

theorem test_decode_plWrite : decodeTableWord 36 0xA042C80FF = some (.plWrite 1068 0x80) := by decide

theorem test_decode_plSetlen : decodeTableWord 36 0xB042DFFFF = some (.plSetlen 1069) := by decide

theorem test_decode_tdDecode : decodeTableWord 36 0xC00000000 = some .tdDecode := by decide

theorem test_decode_tdRead : decodeTableWord 36 0xD0025FFFF = some (.tdRead 37) := by decide

theorem test_decode_reservedE : decodeTableWord 36 0xE00000000 = some .reservedE := by decide

theorem test_decode_sysReset : decodeTableWord 36 0xFFFFFFFFF = some .sysReset := by decide

theorem test_decode_txRead1 : decodeTableWord 36 0x500010000 = some .txRead1 := by decide

/-! The pseudo-operations are their words (R92), and no single word; the frames are their bytes (R74, R80). -/

theorem test_encode_crcBlock :
    encode (.crcBlock [0xFF]) = .sequence [0x000000000, 0x10000FF00, 0x200000000] ∧
    decode (.sequence [0x000000000, 0x10000FF00, 0x200000000]) = .error .noEncodingOfItsOwn := by decide

theorem test_encode_txPayload :
    encode (.txPayload [0xAA, 0xBB]) = .sequence [0x40000AA00, 0x40001BB00] ∧
    decode (.sequence [0x40000AA00, 0x40001BB00]) = .error .noEncodingOfItsOwn := by decide

theorem test_encode_txFrame :
    encode (.txFrame 0x1234 0x01 [0xAA]) = .sequence [0x40000AA00, 0x512340101] ∧
    decode (.sequence [0x40000AA00, 0x512340101]) = .error .noEncodingOfItsOwn := by decide

theorem test_encode_rxFrame :
    encode (.rxFrame [0x7A, 0x00]) = .sequence [0x800007A00, 0x800000000, 0x900000000] ∧
    decode (.sequence [0x800007A00, 0x800000000, 0x900000000]) = .error .noEncodingOfItsOwn := by decide

theorem test_encode_plLoad :
    encode (.plLoad [0x01, 0x03]) = .sequence [0xA00000100, 0xA00010300, 0xB00020000] ∧
    decode (.sequence [0xA00000100, 0xA00010300, 0xB00020000]) = .error .noEncodingOfItsOwn := by decide

theorem test_encode_decodePayload :
    encode (.decodePayload [0x01]) = .sequence [0xA00000100, 0xB00010000, 0xC00000000] ∧
    decode (.sequence [0xA00000100, 0xB00010000, 0xC00000000]) = .error .noEncodingOfItsOwn := by decide

/-- T2, and bytes changed in it and in T1. -/
theorem test_decode_txf :
    decode (.outbound [0x7A, 0x01, 0x07, 0x00, 0x12, 0x34, 0xAA, 0xBB, 0x12, 0x70, 0xA7]) =
      .ok (.txf 0x1234 0x01 [0xAA, 0xBB]) ∧
    decode (.outbound [0x7A, 0x01, 0x07, 0x00, 0x12, 0x34, 0xAA, 0xBB, 0x12, 0x71, 0xA7]) = .error .badChecksum ∧
    decode (.outbound [0x7A, 0x00, 0x05, 0x01, 0x00, 0x01, 0x0C, 0xE5, 0xA7]) = .error .badReserved ∧
    decode (.outbound [0x7A, 0x00, 0x06, 0x00, 0x00, 0x01, 0x0C, 0xE5, 0xA7]) = .error .badLength :=
  by decide

theorem test_decode_rxf :
    decode (.inbound [0x7A, 0x00, 0x04, 0x00, 0x00, 0x01]) =
    .ok (.rxf [0x7A, 0x00, 0x04, 0x00, 0x00, 0x01]) := by decide

theorem test_decode_descriptors_0 :
    ((List.range 12).map fun k => decode (.descriptor (k + 0))) =
      [.ok .onlineStatus, .ok .batteriesSeriesNumber, .ok .cellIVoltage, .ok .maxCellNumber, .ok
       .maxCellVoltage, .ok .minCellNumber, .ok .minCellVoltage, .ok .totalCurrent, .ok .soc, .ok .soh,
       .ok .actualCapacity, .ok .surplusCapacity] := by decide

theorem test_decode_descriptors_12 :
    ((List.range 12).map fun k => decode (.descriptor (k + 12))) =
      [.ok .nominalCapacity, .ok .batteriesTemperatureNumber, .ok .cellTemperatureI, .ok
       .environmentalTemperature, .ok .pcbTemperature, .ok .maxTemperatureCellNumber, .ok
       .maxTemperatureCellValue, .ok .minTemperatureCellNumber, .ok .minTemperatureCellValue, .ok
       .fault1, .ok .fault2, .ok .alert1] := by decide

theorem test_decode_descriptors_24 :
    ((List.range 11).map fun k => decode (.descriptor (k + 24))) =
      [.ok .alert2, .ok .alert3, .ok .alert4, .ok .cycleIndex, .ok .totalVoltage, .ok .status, .ok
       .totalChargingCapacity, .ok .totalDischargeCapacity, .ok .totalRechargeTime, .ok
       .totalDischargeTime, .ok .batteryType] := by decide

theorem test_decode_no_descriptor : decode (.descriptor 35) = .error .noSuchDescriptor := by decide

/-! ## One step of the host operations -/

/-- K3.3. -/
theorem test_crcByte :
    ((after (exec (.crcByte 0x05) { State.reset with cu := { acc := 0x40BF } })).map fun t => t.cu.acc) = some 0xB3C1 :=
  by decide

/-- K4.1. -/
theorem test_crcRead :
    ((after (exec .crcRead State.reset)).map fun t => t.host.results) = some [.checksum 0xFFFF] := by decide

/-- K4.3. -/
theorem test_crcInit :
    ((after (exec .crcInit { State.reset with cu := { acc := 0x807E } })).map fun t => t.cu.acc) = some 0xFFFF :=
  by decide

/-- K1.10. -/
theorem test_crcBlock_check_value :
    ((after (exec (.crcBlock [0x31, 0x32, 0x33, 0x34, 0x35, 0x36, 0x37, 0x38, 0x39]) State.reset)).map
      fun t => t.cu.acc) = some 0x4B37 := by decide

/-- T14. -/
theorem test_txLoad_last :
    ((after (exec (.txLoad 249 0x11) State.reset)).map fun t => t.tf.pbuf) = some [(249, 0x11)] := by decide

/-- T13. -/
theorem test_txLoad_past :
    ((after (exec (.txLoad 250 0x00) State.reset)).map fun t => (t.tf.pbuf, t.host.results)) =
    some ([], [.refused .indexRange]) := by decide

/-- T16. -/
theorem test_txBuild :
    ((after (exec (.txBuild 0x1234 0x01 1) (withPbuf [0xAA, 0xBB]))).map fun t => t.tf.txout) =
    some [0x7A, 0x01, 0x06, 0x00, 0x12, 0x34, 0xAA, 0x70, 0xBF, 0xA7] := by decide

/-- T10. -/
theorem test_txBuild_overflow :
    ((after (exec (.txBuild 0x0001 0x00 251) State.reset)).map
      fun t => (t.tf.txout, t.tf.txDone, t.tf.txErr, t.tf.txCause)) = some ([], false, true, 2) :=
  by decide

/-- T1. -/
theorem test_txRead1 :
    ((after (exec .txRead1 State.reset)).map fun t => t.tf.txout) =
    some [0x7A, 0x00, 0x05, 0x00, 0x00, 0x01, 0x0C, 0xE5, 0xA7] := by decide

/-- T8. -/
theorem test_txFrame :
    ((after (exec (.txFrame 0x7AA7 0x7A [0xA7]) State.reset)).map fun t => t.tf.txout) =
    some [0x7A, 0x7A, 0x06, 0x00, 0x7A, 0xA7, 0xA7, 0xD2, 0x99, 0xA7] := by decide

/-- R131. -/
theorem test_txPayload :
    ((after (exec (.txPayload [0xAA, 0xBB]) State.reset)).map fun t => t.tf.pbuf) =
    some [(0, 0xAA), (1, 0xBB)] := by decide

/-- T3. -/
theorem test_txf :
    ((after (exec (.txf 0xFFFF 0xFF [0x7A, 0xA7]) State.reset)).map fun t => t.tf.txout) =
    some [0x7A, 0xFF, 0x07, 0x00, 0xFF, 0xFF, 0x7A, 0xA7, 0x46, 0x77, 0xA7] := by decide

/-- X4, the sixth byte. -/
theorem test_rxByte_sixth :
    ((after (exec (.rxByte 0x01) (withRx .env 5 0x03 0))).map fun t => (t.rd.rxs, t.rd.rxErr, t.rd.rxCause)) =
    some (.fault, true, 3) := by decide

/-- X14, the eighth byte. -/
theorem test_rxByte_payload :
    ((after (exec (.rxByte 0x22) { withRx .pay 7 6 2 with pl := { plbuf := [(0, 0x11)], plLen := 1 } })).map
      fun t => (t.rd.rxs, t.rd.rxCnt, t.pl.plLen, t.pl.plbuf)) =
    some (.tail, 8, 2, [(0, 0x11), (1, 0x22)]) := by decide

/-- X16, the second `RX.END`. -/
theorem test_rxEnd_idle :
    ((after (exec .rxEnd (withRx .idle 8 6 2))).map fun t => (t.rd.rxCnt, t.rd.rxL, t.rd.rxErr, t.host.results)) =
    some (0, 0, true, [.fault (.shortFrame 0)]) := by decide

/-- X5. -/
theorem test_rxEnd_short :
    ((after (exec .rxEnd (withRx .env 5 5 0))).map fun t => (t.rd.rxs, t.rd.rxCnt, t.host.results)) =
    some (.idle, 5, [.fault (.shortFrame 5)]) := by decide

/-- X6. -/
theorem test_rxFrame :
    ((after (exec (.rxFrame [0x7A, 0x01, 0x07, 0x00, 0x12, 0x34, 0xAA, 0xBB, 0x12, 0x70, 0xA7]) State.reset)).map
      fun t => (t.rd.rxCnt, t.rd.rxDone, t.pl.plLen, t.pl.plbuf)) =
    some (9, true, 3, [(0, 0xAA), (1, 0xBB), (2, 0x12)]) := by decide

/-- X4. -/
theorem test_rxf :
    ((after (exec (.rxf [0x7A, 0x00, 0x03, 0x00, 0x00, 0x01, 0xAA, 0xBB]) State.reset)).map
      fun t => (t.rd.rxs, t.rd.rxErr, t.pl.plLen, t.host.results)) =
    some (.idle, true, 0, [.fault (.shortFrame 3)]) := by decide

/-- X15. -/
theorem test_plWrite :
    ((after (exec (.plWrite 0 0x01) (withRx .env 3 6 0))).map fun t => (t.pl.plbuf, t.host.results)) =
    some ([], [.refused .frameInProgress]) := by decide

/-- X22. -/
theorem test_plWrite_past :
    ((after (exec (.plWrite 1069 0x00) State.reset)).map fun t => t.host.results) = some [.refused .indexRange] :=
  by decide

/-- X21. -/
theorem test_plSetlen :
    ((after (exec (.plSetlen 1) State.reset)).map fun t => t.host.results) = some [.refused .unwrittenRead] :=
  by decide

/-- X23. -/
theorem test_plSetlen_zero :
    ((after (exec (.plSetlen 0) (withPayload [1, 2]))).map fun t => (t.pl.plLen, t.host.results)) = some (0, [.ok]) :=
  by decide

/-- X20, cut short. -/
theorem test_plLoad :
    ((after (exec (.plLoad [0x7A, 0x00, 0x06]) State.reset)).map fun t => (t.pl.plLen, t.pl.plbuf, t.rd.rxDone)) =
    some (3, [(0, 0x7A), (1, 0x00), (2, 0x06)], false) := by decide

/-- VA. -/
theorem test_tdDecode :
    ((after (exec .tdDecode (withPayload payloadVA))).map
      fun t => (t.te.tdValid, t.te.snapCnt, t.te.cur, t.te.fsq, t.te.n, t.te.tn)) =
    some (true, 35, 53, 35, 1, 1) := by decide

/-- R183: the shortest failing payload has no byte. -/
theorem test_tdDecode_empty :
    ((after (exec .tdDecode State.reset)).map fun t => (t.te.tdErr, t.te.tdCause, t.host.results)) =
    some (true, 1, [.fault (.truncatedPayload 0 0 0)]) := by decide

/-- R180. -/
theorem test_tdRead :
    ((after (exec (.tdRead 0) { State.reset with te := { State.reset.te with
      snap := [⟨7, 0, -30000, 2⟩], snapCnt := 1, tdValid := true } })).map fun t => t.host.results) =
    some [.entry ⟨7, 0, -30000, 2⟩] := by decide

/-- R178, R183: one byte is too short for the series count. -/
theorem test_decodePayload_truncated :
    ((after (exec (.decodePayload [0x00]) State.reset)).map fun t => t.host.results) =
    some [.ok, .ok, .fault (.truncatedPayload 1 0 1)] := by decide

/-- R270. -/
theorem test_sysReset :
    ((after (exec .sysReset { withPayload [1] with cu := { acc := 0x1234 } })).map fun t => (t.cu, t.pl, t.host.results)) =
    some (State.reset.cu, State.reset.pl, [.ok]) := by decide

/-- R72. -/
theorem test_reserved :
    ((after (exec .reserved3 State.reset)).map fun t => t.host.results) = some [.refused .reservedOp] ∧
    exec .reserved6 State.reset = exec .reserved3 State.reset ∧
    exec .reserved7 State.reset = exec .reserved3 State.reset ∧
    exec .reservedE State.reset = exec .reserved3 State.reset := ⟨by decide, rfl, rfl, rfl⟩

/-- K4.2, through the fetch. -/
theorem test_step_runs_the_word :
    ((after (step (State.reset.withFetchWord 36 0x100000100))).map fun t => (t.cu.acc, t.host.pending)) =
    some (0x807E, []) := by decide

/-! ## One field of each descriptor (section 5 of 95_test_vectors.md, or VB) -/

/-- E27. -/
theorem test_field_onlineStatus : readField .onlineStatus [0xFF] = some ⟨0, 0, 255, 0⟩ := by decide

/-- E29. -/
theorem test_field_batteriesSeriesNumber :
    readField .batteriesSeriesNumber [0xFF] = some ⟨1, 0, 255, 0⟩ := by decide

/-- E2. -/
theorem test_field_cellIVoltage : readField .cellIVoltage [0x8C, 0xE4] = some ⟨2, 1, 3300, 3⟩ := by decide

/-- VB. -/
theorem test_field_maxCellNumber : readField .maxCellNumber [0x03] = some ⟨3, 0, 3, 0⟩ := by decide

/-- E16. -/
theorem test_field_maxCellVoltage : readField .maxCellVoltage [0xFF, 0xFF] = some ⟨4, 0, 65535, 3⟩ := by decide

/-- VB. -/
theorem test_field_minCellNumber : readField .minCellNumber [0x01] = some ⟨5, 0, 1, 0⟩ := by decide

/-- E17. -/
theorem test_field_minCellVoltage : readField .minCellVoltage [0x8C, 0xE4] = some ⟨6, 0, 36068, 3⟩ := by decide

/-- E13. -/
theorem test_field_totalCurrent : readField .totalCurrent [0x71, 0x48] = some ⟨7, 0, -1000, 2⟩ := by decide

/-- E18. -/
theorem test_field_soc : readField .soc [0x21, 0x66] = some ⟨8, 0, 8550, 2⟩ := by decide

/-- E19. -/
theorem test_field_soh : readField .soh [0x27, 0x10] = some ⟨9, 0, 10000, 2⟩ := by decide

/-- VB. -/
theorem test_field_actualCapacity :
    readField .actualCapacity [0x27, 0x10] = some ⟨10, 0, 10000, 2⟩ := by decide

/-- VB. -/
theorem test_field_surplusCapacity :
    readField .surplusCapacity [0x21, 0x66] = some ⟨11, 0, 8550, 2⟩ := by decide

/-- E20. -/
theorem test_field_nominalCapacity :
    readField .nominalCapacity [0xFF, 0xFF] = some ⟨12, 0, 65535, 2⟩ := by decide

/-- E30. -/
theorem test_field_batteriesTemperatureNumber :
    readField .batteriesTemperatureNumber [0x00] = some ⟨13, 0, 0, 0⟩ := by decide

/-- E5. -/
theorem test_field_cellTemperatureI :
    readField .cellTemperatureI [0x80, 0x32] = some ⟨14, 1, 0, 0⟩ := by decide

/-- E23. -/
theorem test_field_environmentalTemperature :
    readField .environmentalTemperature [0x80, 0x32] = some ⟨15, 0, 32768, 0⟩ := by decide

/-- E24. -/
theorem test_field_pcbTemperature : readField .pcbTemperature [0x00, 0x00] = some ⟨16, 0, -50, 0⟩ := by decide

/-- VB. -/
theorem test_field_maxTemperatureCellNumber :
    readField .maxTemperatureCellNumber [0x01] = some ⟨17, 0, 1, 0⟩ := by decide

/-- E7. -/
theorem test_field_maxTemperatureCellValue :
    readField .maxTemperatureCellValue [0x80] = some ⟨18, 0, 78, 0⟩ := by decide

/-- VB. -/
theorem test_field_minTemperatureCellNumber :
    readField .minTemperatureCellNumber [0x02] = some ⟨19, 0, 2, 0⟩ := by decide

/-- E8a. -/
theorem test_field_minTemperatureCellValue :
    readField .minTemperatureCellValue [0xB2] = some ⟨20, 0, 128, 0⟩ := by decide

/-- VB. -/
theorem test_field_fault1 : readField .fault1 [0x00] = some ⟨21, 0, 0, 0⟩ := by decide

/-- VB. -/
theorem test_field_fault2 : readField .fault2 [0x00] = some ⟨22, 0, 0, 0⟩ := by decide

/-- VB. -/
theorem test_field_alert1 : readField .alert1 [0x00] = some ⟨23, 0, 0, 0⟩ := by decide

/-- E28. -/
theorem test_field_alert2 : readField .alert2 [0x80] = some ⟨24, 0, 128, 0⟩ := by decide

/-- VB. -/
theorem test_field_alert3 : readField .alert3 [0x00] = some ⟨25, 0, 0, 0⟩ := by decide

/-- VB. -/
theorem test_field_alert4 : readField .alert4 [0x01] = some ⟨26, 0, 1, 0⟩ := by decide

/-- E25. -/
theorem test_field_cycleIndex : readField .cycleIndex [0x01, 0x23] = some ⟨27, 0, 291, 0⟩ := by decide

/-- E21. -/
theorem test_field_totalVoltage : readField .totalVoltage [0x14, 0x00] = some ⟨28, 0, 5120, 2⟩ := by decide

/-- VB. -/
theorem test_field_status : readField .status [0x02] = some ⟨29, 0, 2, 0⟩ := by decide

/-- E26. -/
theorem test_field_totalChargingCapacity :
    readField .totalChargingCapacity [0xFF, 0xFF] = some ⟨30, 0, 65535, 0⟩ := by decide

/-- VB. -/
theorem test_field_totalDischargeCapacity :
    readField .totalDischargeCapacity [0x11, 0x11] = some ⟨31, 0, 4369, 0⟩ := by decide

/-- VB. -/
theorem test_field_totalRechargeTime :
    readField .totalRechargeTime [0x00, 0x10] = some ⟨32, 0, 16, 0⟩ := by decide

/-- VB. -/
theorem test_field_totalDischargeTime :
    readField .totalDischargeTime [0x00, 0x20] = some ⟨33, 0, 32, 0⟩ := by decide

/-- VB. -/
theorem test_field_batteryType : readField .batteryType [0x01] = some ⟨34, 0, 1, 0⟩ := by decide

/-- The table of 44_telemetry_fields.md section 1: `fid`, name, width in bytes, mask, offset, exponent. -/
theorem test_descriptorTable :
    descriptorTable.map (fun d => (d.fid.toNat, d.name, d.width.bytes, d.mask, d.off, d.e.toNat)) =
      [(0, "online_status", 1, 0xFFFF, 0, 0), (1, "batteries_series_number", 1, 0xFFFF, 0, 0),
       (2, "cell_i_voltage", 2, 0x7FFF, 0, 3), (3, "max_cell_number", 1, 0xFFFF, 0, 0),
       (4, "max_cell_voltage", 2, 0xFFFF, 0, 3), (5, "min_cell_number", 1, 0xFFFF, 0, 0),
       (6, "min_cell_voltage", 2, 0xFFFF, 0, 3), (7, "total_current", 2, 0xFFFF, 30000, 2),
       (8, "soc", 2, 0xFFFF, 0, 2), (9, "soh", 2, 0xFFFF, 0, 2), (10, "actual_capacity", 2, 0xFFFF, 0, 2),
       (11, "surplus_capacity", 2, 0xFFFF, 0, 2), (12, "nominal_capacity", 2, 0xFFFF, 0, 2),
       (13, "batteries_temperature_number", 1, 0xFFFF, 0, 0), (14, "cell_temperature_i", 2, 0x7FFF, 50, 0),
       (15, "environmental_temperature", 2, 0xFFFF, 50, 0), (16, "pcb_temperature", 2, 0xFFFF, 50, 0),
       (17, "max_temperature_cell_number", 1, 0xFFFF, 0, 0),
       (18, "max_temperature_cell_value", 1, 0x7FFF, 50, 0),
       (19, "min_temperature_cell_number", 1, 0xFFFF, 0, 0),
       (20, "min_temperature_cell_value", 1, 0x7FFF, 50, 0), (21, "fault1", 1, 0xFFFF, 0, 0),
       (22, "fault2", 1, 0xFFFF, 0, 0), (23, "alert1", 1, 0xFFFF, 0, 0), (24, "alert2", 1, 0xFFFF, 0, 0),
       (25, "alert3", 1, 0xFFFF, 0, 0), (26, "alert4", 1, 0xFFFF, 0, 0), (27, "cycle_index", 2, 0xFFFF, 0, 0),
       (28, "total_voltage", 2, 0xFFFF, 0, 2), (29, "status", 1, 0xFFFF, 0, 0),
       (30, "total_charging_capacity", 2, 0xFFFF, 0, 0), (31, "total_discharge_capacity", 2, 0xFFFF, 0, 0),
       (32, "total_recharge_time", 2, 0xFFFF, 0, 0), (33, "total_discharge_time", 2, 0xFFFF, 0, 0),
       (34, "battery_type", 1, 0xFFFF, 0, 0)] := by decide

/-- The names of R181. -/
theorem test_entryName :
    entryName 2 3 = "cell_3_voltage" ∧ entryName 14 255 = "cell_temperature_255" ∧ entryName 34 0 = "battery_type" := by
  decide

/-- E13, the exact value (R171). -/
theorem test_entryValue : entryValue ⟨7, 0, -1000, 2⟩ = -10 := by
  show ((-1000 : ℤ) : ℚ) / 10 ^ 2 = -10; norm_num

/-! ## Witnesses: states and operands that meet the hypotheses of the statements -/

/-- A state in the middle of a frame: five envelope bytes taken in, and a payload byte left from before. -/
def midEnvelope : State := { withRx .env 5 3 0 with pl := { plbuf := filled [0x11], plLen := 0 } }

/-- A state in the middle of a payload of two bytes. -/
def midPayload : State := { withRx .pay 7 6 2 with pl := { plbuf := filled [0x11], plLen := 1 } }

/-- A state with a loaded payload that is too short to decode, and a byte in `PBUF`. -/
def shortPayload : State := { withPayload [1, 0] with tf := (withPbuf [0xAA]).tf }

/-- A state with a valid snapshot, made from payload VA. -/
def decodedVA : State := (after (exec .tdDecode (withPayload payloadVA))).getD State.reset

theorem midEnvelope_inv : Inv midEnvelope where
  pbuf_wf := by decide
  pbuf_within := by decide
  plbuf_wf := by decide
  plbuf_within := by decide
  plLen_le := by decide
  payload_written := by decide
  tx_status := by unfold statusOk; decide
  rx_status := by unfold statusOk; decide
  td_status := by unfold statusOk; decide
  deframer := by show _ ∧ _; decide
  snap_count := by decide
  snap_le := by decide
  entries := nofun
  fsq_le := by decide
  snapshot := nofun

theorem midPayload_inv : Inv midPayload where
  pbuf_wf := by decide
  pbuf_within := by decide
  plbuf_wf := by decide
  plbuf_within := by decide
  plLen_le := by decide
  payload_written := by decide
  tx_status := by unfold statusOk; decide
  rx_status := by unfold statusOk; decide
  td_status := by unfold statusOk; decide
  deframer := by show _ ∧ _; decide
  snap_count := by decide
  snap_le := by decide
  entries := nofun
  fsq_le := by decide
  snapshot := nofun

theorem shortPayload_inv : Inv shortPayload where
  pbuf_wf := by decide
  pbuf_within := by decide
  plbuf_wf := by decide
  plbuf_within := by decide
  plLen_le := by decide
  payload_written := by decide
  tx_status := by unfold statusOk; decide
  rx_status := by unfold statusOk; decide
  td_status := by unfold statusOk; decide
  deframer := trivial
  snap_count := by decide
  snap_le := by decide
  entries := nofun
  fsq_le := by decide
  snapshot := nofun

/-- The invariant is met by a state with a valid snapshot, at the places its clauses speak of. -/
theorem decodedVA_inv : Inv decodedVA where
  pbuf_wf := by decide
  pbuf_within := by decide
  plbuf_wf := by decide
  plbuf_within := by decide
  plLen_le := by decide
  payload_written := by decide
  tx_status := by unfold statusOk; decide
  rx_status := by unfold statusOk; decide
  td_status := by unfold statusOk; decide
  deframer := trivial
  snap_count := by decide
  snap_le := by decide
  entries := by unfold entryOk; decide
  fsq_le := by decide
  snapshot := by unfold snapshotOk; decide

theorem witness_DecodeOfEncodeIsTheInstruction :
    (Instr.txf 0x1234 0xFF (List.replicate 250 0xA7)).wellFormed = true ∧
    (Instr.txf 0x1234 0xFF (List.replicate 250 0xA7)).format ≠ .pseudo ∧
    (Instr.txBuild 1 0 1).wellFormed = true ∧ (Instr.txBuild 1 0 1).format ≠ .pseudo ∧
    Instr.batteryType.wellFormed = true ∧ Instr.batteryType.format ≠ .pseudo := by decide

theorem witness_UnusedOperandFieldsAreIgnored :
    (0x1FFFF05FF : CommandWord) &&& usedBits (cwOp 0x1FFFF05FF) = 0x100000500 &&& usedBits (cwOp 0x100000500) := by
  decide

theorem witness_ReservedCodesAreRefused :
    cwOp 0x3FFFFFFFF = 0x3 ∧ cwOp 0x600000000 = 0x6 ∧ cwOp 0x712345678 = 0x7 ∧ cwOp 0xE00000000 = 0xE := by decide

theorem witness_PseudoOperationsAreTheirExpansions :
    (List.replicate 65536 (0 : Byte)).length ≤ 65536 ∧ (List.replicate 255 (0 : Byte)).length ≤ 255 ∧
    (List.replicate 65535 (0 : Byte)).length ≤ 65535 ∧ 65536 < (List.replicate 65537 (0 : Byte)).length ∧
    255 < (List.replicate 256 (0 : Byte)).length ∧ 65535 < (List.replicate 65536 (0 : Byte)).length := by
  simp only [List.length_replicate]; decide

theorem witness_StepRunsTheDecodedWord :
    (State.reset.withFetchWord 36 0x900000000).host.pending = 0x900000000 :: [] ∧ State.reset.host.pending = [] := by
  decide

theorem witness_CrcBitShiftsAndFeedsBack : (0 < 15) ∧ 14 < 15 ∧ (0x0001 : Word).getLsbD 0 = true := by decide

theorem witness_CrcOperationsActOnAccAlone :
    cwOp 0x012345678 = 0x0 ∧ cwOp 0x1FFFFFFFF = 0x1 ∧ cwOp 0x200000000 = 0x2 := by decide

theorem witness_CrcBitIsTheShiftRegister : 14 < 15 ∧ 14 ≠ 13 ∧ 14 ≠ 0 := by decide

/-- `BuildFrameLayout`, `FrameLengthLaws`, `FramerSequenceEmitsTheFrame`, `TxPayloadAndFrame` and the first
half of `OutboundFrameAsInstruction`: the shortest and the longest payload. -/
theorem witness_frame_payloads :
    ([] : List Byte).length ≤ 250 ∧ (List.replicate 250 (0x55 : Byte)).length ≤ 250 ∧
    (List.replicate 250 (0x55 : Byte)).length = 250 := by decide

theorem witness_OutboundFrameAsInstruction : 250 < (List.replicate 251 (0 : Byte)).length := by decide

theorem witness_TxLoadWritesOneElement :
    cwOp 0x400F91100 = 0x4 ∧ (249 : BitVec 16).toNat ≤ 249 ∧ 249 < (250 : BitVec 16).toNat := by decide

/-- The clauses of `TxBuildEmitsOneFrame` with the largest length each, and the empty payload. -/
theorem witness_TxBuildEmitsOneFrame :
    cwOp 0x500010000 = 0x5 ∧
    ((2 : BitVec 8).toNat ≤ 250 ∧ ([0xAA, 0xBB] : List Byte).length = (2 : BitVec 8).toNat ∧
      ∀ j, j < (2 : BitVec 8).toNat →
        memRead (withPbuf [0xAA, 0xBB]).tf.pbuf j = ([0xAA, 0xBB] : List Byte)[j]?) ∧
    ((0 : BitVec 8).toNat ≤ 250 ∧ ([] : List Byte).length = (0 : BitVec 8).toNat ∧
      ∀ j, j < (0 : BitVec 8).toNat → memRead State.reset.tf.pbuf j = ([] : List Byte)[j]?) ∧
    ((250 : BitVec 8).toNat ≤ 250 ∧ 249 < (250 : BitVec 8).toNat ∧ memRead (withPbuf [0xAA]).tf.pbuf 249 = none) ∧
    250 < (251 : BitVec 8).toNat := by decide

theorem witness_DeframeSlices :
    ([0x7A, 0x00, 0x05, 0x00, 0x00] : List Byte).length < 6 ∧
    (6 ≤ ([0x7A, 0x00, 0x03, 0x00, 0x00, 0x01] : List Byte).length ∧
      ([0x7A, 0x00, 0x03, 0x00, 0x00, 0x01] : List Byte)[2]? = some 3 ∧ (3 : Byte).toNat < 4) ∧
    (6 ≤ ([0x7A, 0x00, 0x05, 0x00, 0x00, 0x01] : List Byte).length ∧
      ([0x7A, 0x00, 0x05, 0x00, 0x00, 0x01] : List Byte)[2]? = some 5 ∧ 4 ≤ (5 : Byte).toNat ∧
      ([0x7A, 0x00, 0x05, 0x00, 0x00, 0x01] : List Byte).length < (5 : Byte).toNat + 2) ∧
    (6 ≤ ([0x7A, 0x00, 0x04, 0x00, 0x00, 0x01] : List Byte).length ∧
      ([0x7A, 0x00, 0x04, 0x00, 0x00, 0x01] : List Byte)[2]? = some 4 ∧ 4 ≤ (4 : Byte).toNat ∧
      (4 : Byte).toNat + 2 ≤ ([0x7A, 0x00, 0x04, 0x00, 0x00, 0x01] : List Byte).length) := by decide

/-- `RxByteStartsAFrame`, `RxFrameAgreesWithDeframe`, `InboundFrameAsInstruction`: between frames. -/
theorem witness_RxByteStartsAFrame : cwOp 0x800007A00 = 0x8 ∧ (withRx .idle 8 6 2).rd.rxs = .idle := by decide

/-- The four clauses of `RxByteTakesTheEnvelope`: third byte, and sixth byte with `RX_L` 3, 4 and 5. -/
theorem witness_RxByteTakesTheEnvelope :
    ((withRx .env 2 0 0).rd.rxs = .env ∧
      (7 : Byte) = (if (withRx .env 2 0 0).rd.rxCnt = 2 then 7 else (withRx .env 2 0 0).rd.rxL) ∧
      (withRx .env 2 0 0).rd.rxCnt + 1 ≠ 6) ∧
    ((withRx .env 5 3 0).rd.rxs = .env ∧
      (3 : Byte) = (if (withRx .env 5 3 0).rd.rxCnt = 2 then 7 else (withRx .env 5 3 0).rd.rxL) ∧
      (withRx .env 5 3 0).rd.rxCnt = 5 ∧ (3 : Byte).toNat < 4) ∧
    ((withRx .env 5 4 0).rd.rxs = .env ∧
      (4 : Byte) = (if (withRx .env 5 4 0).rd.rxCnt = 2 then 7 else (withRx .env 5 4 0).rd.rxL) ∧
      (withRx .env 5 4 0).rd.rxCnt = 5) ∧
    ((withRx .env 5 5 0).rd.rxs = .env ∧
      (5 : Byte) = (if (withRx .env 5 5 0).rd.rxCnt = 2 then 7 else (withRx .env 5 5 0).rd.rxL) ∧
      (withRx .env 5 5 0).rd.rxCnt = 5 ∧ 4 < (5 : Byte).toNat) := by decide

theorem witness_RxByteStoresThePayload :
    midPayload.rd.rxs = .pay ∧ midPayload.pl.plLen.toNat < 1069 ∧
    ∃ s : State, s.rd.rxs = .pay ∧ s.pl.plLen.toNat = 1068 :=
  ⟨by decide, by decide, { withRx .pay 7 6 2 with pl := { plbuf := [], plLen := 1068 } }, by decide⟩

theorem witness_RxByteIsDropped :
    (withRx .tail 8 6 2).rd.rxs = .tail ∧ (withRx .fault 6 3 0).rd.rxs = .fault := by decide

theorem witness_RxEndByState :
    cwOp 0x900000000 = 0x9 ∧ (withRx .tail 8 6 2).rd.rxs = .tail ∧ midPayload.rd.rxs = .pay ∧
    midEnvelope.rd.rxs = .env ∧ (withRx .fault 6 3 0).rd.rxs = .fault ∧ State.reset.rd.rxs = .idle := by decide

theorem witness_PlWriteWritesOneElement :
    cwOp 0xA042C0100 = 0xA ∧ (State.reset.rd.rxs = .idle ∧ (1068 : BitVec 16).toNat ≤ 1068) ∧
    midEnvelope.rd.rxs ≠ .idle ∧ 1068 < (1069 : BitVec 16).toNat := by decide

theorem witness_PlSetlenSetsTheLength :
    cwOp 0xB00020000 = 0xB ∧
    ((withPayload [1, 2]).rd.rxs = .idle ∧ (2 : BitVec 16).toNat ≤ 1069 ∧
      ∀ j, j < (2 : BitVec 16).toNat → memRead (withPayload [1, 2]).pl.plbuf j ≠ none) ∧
    midEnvelope.rd.rxs ≠ .idle ∧ 1069 < (1070 : BitVec 16).toNat ∧
    ((withPayload [1, 2]).rd.rxs = .idle ∧ (1069 : BitVec 16).toNat ≤ 1069 ∧ 2 < (1069 : BitVec 16).toNat ∧
      memRead (withPayload [1, 2]).pl.plbuf 2 = none) := by decide

/-- `PlLoadLoadsThePayload`, `DecodePseudoDecodesItsBytes`: the longest payload. -/
theorem witness_PlLoadLoadsThePayload :
    State.reset.rd.rxs = .idle ∧ (List.replicate 1069 (0 : Byte)).length ≤ 1069 := by
  rw [List.length_replicate]; decide

/-- A kind of each width with a descriptor of it, and the greatest raw value of a one-byte field. -/
theorem witness_FieldValueRanges :
    (∃ k ∈ rangeKinds, maxTemperatureCellValueField ∈ descriptorTable ∧ k.describes maxTemperatureCellValueField) ∧
    (∃ k ∈ rangeKinds, totalCurrentField ∈ descriptorTable ∧ k.describes totalCurrentField) ∧
    fitsWidth .u8 255 ∧ ¬fitsWidth .u8 256 ∧ fitsWidth .u16 65535 := by decide

/-- The fields of one byte at the last byte of the payload, and at the last place of `SNAP`. -/
theorem witness_OneByteScalarFields :
    ∃ s : State, ((.batteryType, 34, 0) : Instr × BitVec 6 × Int) ∈ byteScalars ∧
      s.te.cur.toNat + 1 ≤ s.pl.plLen.toNat ∧ memRead s.pl.plbuf s.te.cur.toNat = some 7 ∧
      s.te.snapCnt.toNat < 543 :=
  ⟨{ withPayload [1, 7] with te := { State.reset.te with cur := 1, snapCnt := 542 } }, by decide⟩

theorem witness_CountFieldsLatch :
    (withPayload [255]).te.cur.toNat + 1 ≤ (withPayload [255]).pl.plLen.toNat ∧
    memRead (withPayload [255]).pl.plbuf (withPayload [255]).te.cur.toNat = some 255 ∧
    (withPayload [255]).te.snapCnt.toNat < 543 := by decide

/-- The fields of two bytes at the end of the payload; with both counts nonzero for the arrays. -/
theorem witness_TwoByteScalarFields_ArrayElementFields :
    ∃ s : State, ((.soc, 8, 0, 2) : Instr × BitVec 6 × Int × BitVec 2) ∈ wordScalars ∧
      s.te.cur.toNat + 2 ≤ s.pl.plLen.toNat ∧ memRead s.pl.plbuf s.te.cur.toNat = some 7 ∧
      memRead s.pl.plbuf (s.te.cur.toNat + 1) = some 8 ∧ s.te.snapCnt.toNat < 543 ∧ s.te.n ≠ 0 ∧ s.te.tn ≠ 0 :=
  ⟨{ withPayload [1, 7, 8] with te := { State.reset.te with cur := 1, snapCnt := 542, n := 255, tn := 1 } }, by decide⟩

/-- Both counts 0, in a state and in a payload of 49 bytes. -/
theorem witness_EmptyArraysAreSkipped :
    (withPayload [1, 0]).te.n = 0 ∧ (withPayload [1, 0]).te.tn = 0 ∧
    (∃ w, decodeWalk (List.replicate 49 0) = .ok w ∧ w.n = 0) ∧ (List.replicate 49 (0 : Byte)).getD 1 0 = 0 ∧
    (List.replicate 49 (0 : Byte)).getD (20 + 2 * 0) 0 = 0 :=
  ⟨by decide, by decide, ⟨_, rfl, rfl⟩, by decide, by decide⟩

/-- One byte left where a field needs two, and none where it needs one, with both counts nonzero. -/
theorem witness_TruncatedFieldsFault :
    (withPayload []).pl.plLen.toNat < (withPayload []).te.cur.toNat + 1 ∧
    ((.onlineStatus, 0, 0) : Instr × BitVec 6 × Int) ∈ byteScalars ∧
    ((.soc, 8, 0, 2) : Instr × BitVec 6 × Int × BitVec 2) ∈ wordScalars ∧
    ∃ s : State, s.pl.plLen.toNat < s.te.cur.toNat + 2 ∧ s.te.n ≠ 0 ∧ s.te.tn ≠ 0 :=
  ⟨by decide, by decide, by decide, { withPayload [1] with te := { State.reset.te with n := 1, tn := 1 } }, by decide⟩

/-- The walk of payload VA. -/
def walkVA : Walk :=
  match decodeWalk payloadVA with
  | .ok w => w
  | .error _ => ⟨0, 0, 0, []⟩

/-- `DecodeCompletesAsTheFunction`, `SnapshotLayout` and `SnapshotNamesAreDistinct`, with one element in each array. -/
theorem witness_DecodeCompletesAsTheFunction :
    memSpan (withPayload payloadVA).pl.plbuf 0 (withPayload payloadVA).pl.plLen.toNat = some payloadVA ∧
    decodeWalk payloadVA = .ok walkVA ∧ walkVA.cur = 53 ∧ (payloadVA.getD 1 0).toNat = 1 ∧
    (payloadVA.getD (20 + 2 * 1) 0).toNat = 1 := by decide

/-- A fault at the first cell, and one at the last field, behind both arrays. -/
theorem witness_TruncationAbortsTheDecode :
    memSpan (withPayload [1, 1, 0]).pl.plbuf 0 (withPayload [1, 1, 0]).pl.plLen.toNat = some [1, 1, 0] ∧
    decodeWalk [1, 1, 0] = .error (.truncatedPayload 2 1 2) ∧
    memSpan (withPayload (payloadVA.take 52)).pl.plbuf 0 (withPayload (payloadVA.take 52)).pl.plLen.toNat =
      some (payloadVA.take 52) ∧
    decodeWalk (payloadVA.take 52) = .error (.truncatedPayload 34 0 52) := by decide

/-- Both clauses of `DecodeCompletesIffLongEnough` at the boundary: 53 bytes suffice for VA, 52 do not. -/
theorem witness_DecodeCompletesIffLongEnough :
    (memSpan (withPayload payloadVA).pl.plbuf 0 (withPayload payloadVA).pl.plLen.toNat = some payloadVA ∧
      (payloadVA.getD 1 0).toNat = 1 ∧ (payloadVA.getD 22 0).toNat = 1 ∧
      2 ≤ payloadVA.length ∧ 21 + 2 * 1 ≤ payloadVA.length ∧ 49 + 2 * 1 + 2 * 1 ≤ payloadVA.length) ∧
    memSpan (withPayload (payloadVA.take 52)).pl.plbuf 0 (withPayload (payloadVA.take 52)).pl.plLen.toNat =
      some (payloadVA.take 52) ∧
    ((payloadVA.take 52).getD 1 0).toNat = 1 ∧ ((payloadVA.take 52).getD 22 0).toNat = 1 ∧
    ¬(49 + 2 * 1 + 2 * 1 ≤ (payloadVA.take 52).length) := by decide

/-- Two payloads with the same snapshot that are not the same: bit 15 of the cell voltage differs, and a
byte follows in one. -/
theorem witness_DecodeLosesOnlyTheFlagBits :
    ((payloadVA ++ [7]).take walkVA.cur = payloadVA.take walkVA.cur) ∧ decodeWalk payloadVA = .ok walkVA ∧
    decodeWalk (payloadVA.set 2 0x80 ++ [7]) = .ok walkVA ∧ payloadVA.set 2 0x80 ++ [7] ≠ payloadVA := by decide

/-- Two states with one payload that differ elsewhere. -/
theorem witness_DecodeDependsOnThePayloadAlone :
    ∃ s t : State, s ≠ t ∧ memSpan s.pl.plbuf 0 s.pl.plLen.toNat = some [1] ∧
      memSpan t.pl.plbuf 0 t.pl.plLen.toNat = some [1] :=
  ⟨withPayload [1], { withPayload [1, 2] with pl := { plbuf := filled [1, 2], plLen := 1 } }, by decide⟩

theorem witness_TdReadReturnsTheEntry :
    cwOp 0xD00220000 = 0xD ∧
    (decodedVA.te.tdValid = true ∧ (34 : BitVec 16).toNat < decodedVA.te.snapCnt.toNat ∧
      decodedVA.te.snap[(34 : BitVec 16).toNat]? = some ⟨34, 0, 0, 0⟩) ∧
    State.reset.te.tdValid = false ∧ decodedVA.te.snapCnt.toNat ≤ (35 : BitVec 16).toNat := by decide

/-- Each fault, taken in a state of the invariant; also `DecodeAfterABadFrameFaults` for both operations. -/
theorem witness_FaultsAreRecordedByTheirUnit :
    (∃ t, Inv midPayload ∧ exec .rxEnd midPayload = .next t ∧
      t.host.results = midPayload.host.results ++ [.fault (.shortFrame 7)]) ∧
    (∃ t, Inv midEnvelope ∧ exec (.rxByte 1) midEnvelope = .next t ∧
      t.host.results = midEnvelope.host.results ++ [.fault (.shortFrame 3)]) ∧
    (∃ t, Inv shortPayload ∧ exec .tdDecode shortPayload = .next t ∧
      t.host.results = shortPayload.host.results ++ [.fault (.truncatedPayload 3 0 2)]) ∧
    (∃ t, Inv shortPayload ∧ exec (.txBuild 1 0 251) shortPayload = .next t ∧
      t.host.results = shortPayload.host.results ++ [.fault (.lengthOverflow 251)]) :=
  ⟨⟨_, midPayload_inv, rfl, rfl⟩, ⟨_, midEnvelope_inv, rfl, rfl⟩, ⟨_, shortPayload_inv, rfl, rfl⟩,
    ⟨_, shortPayload_inv, rfl, rfl⟩⟩

/-- Each reason of R267 is met by a state, and so is no reason. -/
theorem witness_RefusalsAreThoseOfTheTable :
    refusalOf .reserved3 State.reset = some .reservedOp ∧
    refusalOf (.txLoad 250 0) State.reset = some .indexRange ∧ refusalOf (.txLoad 249 0) State.reset = none ∧
    refusalOf (.txBuild 1 0 1) State.reset = some .unwrittenRead ∧ refusalOf (.txBuild 1 0 251) State.reset = none ∧
    refusalOf (.plWrite 1069 0) midEnvelope = some .frameInProgress ∧
    refusalOf (.plWrite 1069 0) State.reset = some .indexRange ∧
    refusalOf (.plSetlen 1070) State.reset = some .indexRange ∧
    refusalOf (.plSetlen 1) State.reset = some .unwrittenRead ∧
    refusalOf (.tdRead 0) State.reset = some .snapshotNotValid ∧
    refusalOf (.tdRead 35) decodedVA = some .indexRange ∧ refusalOf (.tdRead 34) decodedVA = none := by decide

theorem witness_ResetGivesTheResetValues : cwOp 0xF00000000 = 0xF := by decide

/-- `UnitsDoNotDisturbEachOther`, `EmittedBytesStay`, `EveryOperationAnswersOnce`: an operation of each unit
completes, and the premise of each frame is met by another unit's operation. -/
theorem witness_UnitsDoNotDisturbEachOther :
    Instr.rxEnd ≠ .sysReset ∧ (∃ t, exec .rxEnd midPayload = .next t) ∧ (∃ t, exec .crcRead midPayload = .next t) ∧
    (∃ t, exec .onlineStatus midPayload = .next t) ∧ Instr.rxEnd.format ≠ .tpl ∧ Instr.rxEnd.format ≠ .pseudo :=
  ⟨by decide, ⟨_, rfl⟩, ⟨_, rfl⟩, ⟨_, rfl⟩, by decide, by decide⟩

/-- `StepKeepsTheInvariant`, `NoOperationStops`: a step of a state of the invariant. -/
theorem witness_StepKeepsTheInvariant :
    ∃ t, Inv midEnvelope ∧ step (midEnvelope.withFetchWord 36 0x800000100) = .next t ∧
      Inv (midEnvelope.withFetchWord 36 0x800000100) :=
  ⟨_, midEnvelope_inv, rfl, { midEnvelope_inv with }⟩

theorem witness_CursorStaysInThePayload : ∃ t, Inv decodedVA ∧ exec .tdDecode decodedVA = .next t ∧ t.te.cur = 53 :=
  ⟨_, decodedVA_inv, rfl, by decide⟩

end Sys2Proof.Tests
end

/-!
PROOFS. The command word (30_encoding.md): the decoder reads used operand bits only (R73), and the reserved
operation codes are refused (R72).
-/

namespace Sys2Proof.Proofs.Encoding

open Sys2Proof Sys2Proof.Machine Sys2Proof.Claims

/-! ## The step on a pending word -/

/-- A step takes the first pending word and carries out what it decodes to. -/
theorem step_pending_cons (w : CommandWord) (rest : List CommandWord) (s : State) :
    step { s with host := { s.host with pending := w :: rest } } =
      exec (decodeWord w) { s with host := { s.host with pending := rest } } := rfl

/-! ## The fields a mask keeps -/

/-- A mask that holds every bit of the operation code keeps the operation code. -/
theorem cwOp_and {m : CommandWord} (w : CommandWord) (hm : cwOp m = BitVec.allOnes 4) : cwOp (w &&& m) = cwOp w := by
  rw [cwOp, BitVec.extractLsb'_and, ← cwOp, ← cwOp, hm, BitVec.and_allOnes]

/-- A mask that holds every bit of the field `a` keeps the field `a`. -/
theorem cwA_and {m : CommandWord} (w : CommandWord) (hm : cwA m = BitVec.allOnes 16) : cwA (w &&& m) = cwA w := by
  rw [cwA, BitVec.extractLsb'_and, ← cwA, ← cwA, hm, BitVec.and_allOnes]

/-- A mask that holds every bit of the field `b` keeps the field `b`. -/
theorem cwB_and {m : CommandWord} (w : CommandWord) (hm : cwB m = BitVec.allOnes 8) : cwB (w &&& m) = cwB w := by
  rw [cwB, BitVec.extractLsb'_and, ← cwB, ← cwB, hm, BitVec.and_allOnes]

/-! ## The used bits of a word (R70, R73) -/

/-- The operation code is used by every operation. -/
theorem cwOp_and_usedBits (w : CommandWord) : cwOp (w &&& usedBits (cwOp w)) = cwOp w := by
  have mask : ∀ op : BitVec 4, cwOp (usedBits op) = BitVec.allOnes 4 := by decide
  exact cwOp_and w (mask _)

/-- `TX.LOAD`, `PL.WRITE`, `PL.SETLEN` and `TD.READ` use the whole field `a`. -/
theorem cwA_and_usedBits (w : CommandWord) (h : (cwOp w).toNat ∈ [0x4, 0xA, 0xB, 0xD]) :
    cwA (w &&& usedBits (cwOp w)) = cwA w := by
  have mask : ∀ op : BitVec 4, op.toNat ∈ [0x4, 0xA, 0xB, 0xD] → cwA (usedBits op) = BitVec.allOnes 16 := by decide
  exact cwA_and w (mask _ h)

/-- `CRC.BYTE`, `TX.LOAD`, `RX.BYTE` and `PL.WRITE` use the whole field `b`. -/
theorem cwB_and_usedBits (w : CommandWord) (h : (cwOp w).toNat ∈ [0x1, 0x4, 0x8, 0xA]) :
    cwB (w &&& usedBits (cwOp w)) = cwB w := by
  have mask : ∀ op : BitVec 4, op.toNat ∈ [0x1, 0x4, 0x8, 0xA] → cwB (usedBits op) = BitVec.allOnes 8 := by decide
  exact cwB_and w (mask _ h)

/-- `TX.BUILD` uses every bit of its word. -/
theorem and_usedBits_txBuild (w : CommandWord) (h : (cwOp w).toNat = 0x5) : w &&& usedBits (cwOp w) = w := by
  have mask : ∀ op : BitVec 4, op.toNat = 0x5 → usedBits op = BitVec.allOnes 36 := by decide
  rw [mask _ h, BitVec.and_allOnes]

/-- Clearing the unused operand bits does not change what a word decodes to: each row of R70 reads only
fields that the mask of its operation code keeps. -/
theorem decodeWord_and_usedBits (w : CommandWord) : decodeWord (w &&& usedBits (cwOp w)) = decodeWord w := by
  unfold decodeWord
  rw [cwOp_and_usedBits]
  split
  case h_2 h => -- CRC.BYTE
    rw [cwB_and_usedBits w (by simp [h])]
  case h_5 h => -- TX.LOAD
    rw [cwA_and_usedBits w (by simp [h]), cwB_and_usedBits w (by simp [h])]
  case h_6 h => -- TX.BUILD, TX.READ1
    rw [and_usedBits_txBuild w h]
  case h_9 h => -- RX.BYTE
    rw [cwB_and_usedBits w (by simp [h])]
  case h_11 h => -- PL.WRITE
    rw [cwA_and_usedBits w (by simp [h]), cwB_and_usedBits w (by simp [h])]
  case h_12 h => -- PL.SETLEN
    rw [cwA_and_usedBits w (by simp [h])]
  case h_14 h => -- TD.READ
    rw [cwA_and_usedBits w (by simp [h])]
  all_goals rfl -- the rows without operands

/-- Settles O3: both words decode as their common used part does, and a step depends on the word only
through what it decodes to. -/
theorem unusedOperandFieldsAreIgnored : Obligations.UnusedOperandFieldsAreIgnored := by
  intro w v rest s h
  have hdec : decodeWord w = decodeWord v := by
    rw [← decodeWord_and_usedBits w, h, decodeWord_and_usedBits v]
  exact ⟨hdec, by rw [step_pending_cons, step_pending_cons, hdec]⟩

/-! ## The reserved operation codes (R72) -/

/-- A reserved operation code decodes to its reserved row, whatever the operand bits. -/
theorem decodeWord_reserved (w : CommandWord) (h : cwOp w = 0x3 ∨ cwOp w = 0x6 ∨ cwOp w = 0x7 ∨ cwOp w = 0xE) :
    decodeWord w ∈ [.reserved3, .reserved6, .reserved7, .reservedE] := by
  rcases h with h | h | h | h <;> simp [decodeWord, h]

/-- A reserved row is refused with `ReservedOp` in every state. -/
theorem exec_reserved {i : Instr} (h : i ∈ [.reserved3, .reserved6, .reserved7, .reservedE]) (s : State) :
    exec i s = .next (answer (.refused .reservedOp) s) := by
  simp only [List.mem_cons, List.not_mem_nil, or_false] at h
  rcases h with rfl | rfl | rfl | rfl <;> exact report_refused s .reservedOp

/-- Settles O4: a reserved code decodes to a reserved row, and each reserved row is refused. -/
theorem reservedCodesAreRefused : Obligations.ReservedCodesAreRefused := by
  refine ⟨fun w rest s h => ?_, fun s => ?_⟩
  · rw [step_pending_cons]
    exact exec_reserved (decodeWord_reserved w h) _
  · exact ⟨exec_reserved (by simp) s, exec_reserved (by simp) s, exec_reserved (by simp) s, exec_reserved (by simp) s⟩

end Sys2Proof.Proofs.Encoding

/-!
PROOFS. The CRC unit (40_crc.md): the bit iteration (R100), the byte step (R101), the fold over a byte sequence
(R102, R103), and the three operations on `ACC` (R105 to R107).
-/

namespace Sys2Proof.Proofs.Crc

open Sys2Proof Sys2Proof.Machine Sys2Proof.Claims

/-! ## One bit iteration (R100) -/

/-- With bit 0 set, `crc_bit` shifts and feeds back. -/
theorem crcBit_of_lsb_set {a : Word} (h : a.getLsbD 0 = true) : crcBit a = (a >>> 1) ^^^ 0xA001 := if_pos h

/-- With bit 0 clear, `crc_bit` is the shift alone. -/
theorem crcBit_of_lsb_clear {a : Word} (h : ¬ a.getLsbD 0 = true) : crcBit a = a >>> 1 := if_neg h

/-- A shift right by one brings every bit down by one place; bit 16, which a word does not have, reads as 0. -/
theorem getLsbD_shiftRight_one (a : Word) (k : Nat) : (a >>> 1).getLsbD k = a.getLsbD (k + 1) := by
  rw [BitVec.getLsbD_ushiftRight, Nat.add_comm]

/-- Settles O8: the two branches of `crc_bit`, and the shift bit by bit. -/
theorem crcBitShiftsAndFeedsBack : Obligations.CrcBitShiftsAndFeedsBack := by
  refine ⟨fun a => ?_, fun a k _ => getLsbD_shiftRight_one a k, fun a => ?_, ?_⟩
  · split
    case isTrue h => exact crcBit_of_lsb_set h
    case isFalse h => exact crcBit_of_lsb_clear h
  · rw [getLsbD_shiftRight_one, BitVec.getLsbD_of_ge a 16 le_rfl]
  · decide -- the corner cases and the example of R100

/-! ## One byte step (R101) -/

/-- `crcSteps n` iterates `crc_bit` `n` times. -/
theorem crcSteps_eq_iterate (n : Nat) (a : Word) : crcSteps n a = crcBit^[n] a := by
  induction n generalizing a with
  | zero => rfl
  | succ n ih => exact ih (crcBit a)

/-- The byte is combined once, before eight iterations of `crc_bit`. -/
theorem crcByte_eq_iterate (a : Word) (b : Byte) : crcByte a b = crcBit^[8] (a ^^^ b.setWidth 16) :=
  crcSteps_eq_iterate 8 _

/-- Settles O9: the eight iterations written out, and the intermediate values of R101's example. -/
theorem crcByteIsEightIterations : Obligations.CrcByteIsEightIterations := by
  refine ⟨fun a b => ?_, ?_⟩
  · rw [crcByte_eq_iterate]
    rfl
  · decide -- the corner cases and the trace of R101

/-! ## The checksum of a byte sequence (R102, R103) -/

/-- The checksum of two pieces goes on from the accumulator of the first. -/
theorem crc16_append (bs cs : List Byte) : crc16 (bs ++ cs) = cs.foldl crcByte (crc16 bs) := List.foldl_append

/-- One more byte at the end is one more byte step. -/
theorem crc16_append_singleton (bs : List Byte) (b : Byte) : crc16 (bs ++ [b]) = crcByte (crc16 bs) b :=
  crc16_append bs [b]

/-- Settles O10: the start value, one step per byte taken at the end, and the trace of R102. -/
theorem checksumFoldsTheBytesInOrder : Obligations.ChecksumFoldsTheBytesInOrder :=
  ⟨rfl, crc16_append_singleton, by decide⟩

/-! ## The operations of the unit (R105 to R107) -/

/-- `CRC.INIT` completes in every state with the start value in `ACC` (R105). -/
theorem exec_crcInit (s : State) : exec .crcInit s = .next (answer .ok { s with cu := { acc := 0xFFFF } }) :=
  report_done s (setAcc Config.crcInit s) .ok

/-- `CRC.BYTE b` completes in every state with `ACC` stepped by `b` (R106). -/
theorem exec_crcByte (b : Byte) (s : State) :
    exec (.crcByte b) s = .next (answer .ok { s with cu := { acc := crcByte s.cu.acc b } }) :=
  report_done s (setAcc (crcByte s.cu.acc b) s) .ok

/-- `CRC.READ` completes in every state and returns `ACC` (R107). -/
theorem exec_crcRead (s : State) : exec .crcRead s = .next (answer (.checksum s.cu.acc) s) :=
  report_done s s (.checksum s.cu.acc)

/-- Operation code 0 is `CRC.INIT`, whatever the operand bits. -/
theorem decodeWord_crcInit {w : CommandWord} (h : cwOp w = 0x0) : decodeWord w = .crcInit := by simp [decodeWord, h]

/-- Operation code 1 is `CRC.BYTE` of the field `b`, whatever the other operand bits. -/
theorem decodeWord_crcByte {w : CommandWord} (h : cwOp w = 0x1) : decodeWord w = .crcByte (cwB w) := by
  simp [decodeWord, h]

/-- Operation code 2 is `CRC.READ`, whatever the operand bits. -/
theorem decodeWord_crcRead {w : CommandWord} (h : cwOp w = 0x2) : decodeWord w = .crcRead := by simp [decodeWord, h]

/-- Settles O11: the three rows of the decoder, then the three operations in any state. -/
theorem crcOperationsActOnAccAlone : Obligations.CrcOperationsActOnAccAlone := by
  refine ⟨fun w => ⟨decodeWord_crcInit, decodeWord_crcByte, decodeWord_crcRead⟩, fun s b => ?_, rfl, by decide⟩
  exact ⟨exec_crcInit s, exec_crcByte b s, exec_crcRead s⟩

end Sys2Proof.Proofs.Crc

/-!
PROOFS. The transmit framer (41_tx_framer.md): the bytes and the length of an outbound frame (R120 to R125), and the
operations `TX.LOAD` (R126) and `TX.BUILD` (R127, R128).
-/

namespace Sys2Proof.Proofs.TxFramer

open Sys2Proof Sys2Proof.Machine Sys2Proof.Claims

/-! ## The frame as bytes (R120 to R125) -/

/-- The five header bytes, then the payload: the length the placeholder is patched with. -/
@[simp] theorem frameBody_length (cmd : Word) (p : List Byte) (addr : Byte) :
    (frameBody cmd p addr).length = 5 + p.length := by
  simp [frameBody, Config.nRsv]
  omega

/-- Steps 1 and 2 of R120 give the body, with the length of the whole body at index 1. -/
theorem patchLength_frameBody (cmd : Word) (p : List Byte) (addr : Byte) :
    patchLength (frameBody cmd p addr) =
      [addr, BitVec.ofNat 8 (5 + p.length), 0x00, hi8 cmd, lo8 cmd] ++ p := by
  rw [patchLength, frameBody_length]
  rfl

/-- Steps 3 and 4 of R120: the markers around the body and its checksum, high byte first. -/
theorem buildFrame_eq {cmd : Word} {p : List Byte} {addr : Byte} {body : List Byte}
    (hbody : body = [addr, BitVec.ofNat 8 (5 + p.length), 0x00, hi8 cmd, lo8 cmd] ++ p) :
    buildFrame cmd p addr = [0x7A] ++ body ++ [hi8 (crc16 body), lo8 (crc16 body)] ++ [0xA7] := by
  rw [hbody, ← patchLength_frameBody]
  rfl

/-- A frame is four bytes longer than its body. -/
@[simp] theorem buildFrame_length (cmd : Word) (p : List Byte) (addr : Byte) :
    (buildFrame cmd p addr).length = 9 + p.length := by
  rw [buildFrame_eq rfl]
  simp
  omega

/-- The byte at index 2 of a frame is its length byte. -/
theorem buildFrame_getElem?_two (cmd : Word) (p : List Byte) (addr : Byte) :
    (buildFrame cmd p addr)[2]? = some (BitVec.ofNat 8 (5 + p.length)) := by
  rw [buildFrame_eq rfl]
  rfl

/-- Settles O15: the layout and the length, for a payload of any length. -/
theorem buildFrameLayout : Obligations.BuildFrameLayout := by
  intro cmd addr p _ body hbody
  exact ⟨buildFrame_eq hbody, buildFrame_length cmd p addr⟩

/-- Settles O16: up to 250 bytes the length `5 + plen` fits the length byte, and 250 bytes fill it. -/
theorem frameLengthLaws : Obligations.FrameLengthLaws := by
  intro cmd addr p hp
  refine ⟨buildFrame_length cmd p addr, ?_, fun h250 => ?_⟩
  · have hfits : (BitVec.ofNat 8 (5 + p.length)).toNat = 5 + p.length := by
      rw [BitVec.toNat_ofNat, Nat.mod_eq_of_lt (by omega)]
    rw [buildFrame_getElem?_two, Option.map_some, hfits]
  · rw [buildFrame_length, buildFrame_getElem?_two, h250]
    exact ⟨rfl, rfl⟩

/-! ## `TX.LOAD` (R126) -/

/-- Operation code 4 is `TX.LOAD` of the fields `a` and `b`. -/
theorem decodeWord_txLoad {w : CommandWord} (h : cwOp w = 0x4) : decodeWord w = .txLoad (cwA w) (cwB w) := by
  simp [decodeWord, h]

/-- `TX.LOAD` reports what its effect is. -/
theorem exec_txLoad (i : BitVec 16) (b : Byte) (s : State) :
    exec (.txLoad i b) s = report s (txLoadEffect i b s) := rfl

/-- Up to index 249 `TX.LOAD` completes in every state with the element written. -/
theorem exec_txLoad_of_le {i : BitVec 16} (b : Byte) (s : State) (hi : i.toNat ≤ 249) :
    exec (.txLoad i b) s = .next (answer .ok (setPbuf i.toNat b s)) := by
  rcases txLoadEffect_cases i b s with ⟨-, heff⟩ | ⟨hgt, -⟩
  · rw [exec_txLoad, heff, report_done]
  · omega

/-- Above index 249 `TX.LOAD` is refused in every state. -/
theorem exec_txLoad_of_gt {i : BitVec 16} (b : Byte) (s : State) (hi : 249 < i.toNat) :
    exec (.txLoad i b) s = .next (answer (.refused .indexRange) s) := by
  rcases txLoadEffect_cases i b s with ⟨hle, -⟩ | ⟨-, heff⟩
  · omega
  · rw [exec_txLoad, heff, report_refused]

/-- Settles O17: the new `PBUF` is the old one with one write, which the laws of the byte buffers describe. -/
theorem txLoadWritesOneElement : Obligations.TxLoadWritesOneElement := by
  refine ⟨fun w => decodeWord_txLoad, fun i b s => ⟨fun hle => ?_, exec_txLoad_of_gt b s⟩⟩
  exact ⟨memWrite s.tf.pbuf i.toNat b, exec_txLoad_of_le b s hle, memRead_memWrite_same _ _ _,
    fun j hj => memRead_memWrite_other _ _ j b hj⟩

/-! ## `TX.BUILD` (R127, R128) -/

/-- `TX.BUILD` reports what its effect is. -/
theorem exec_txBuild (cmd : Word) (addr : Byte) (plen : BitVec 8) (s : State) :
    exec (.txBuild cmd addr plen) s = report s (txBuildEffect cmd addr plen s) := rfl

/-- `TX.READ1` runs as the `TX.BUILD` it stands for (R129). -/
theorem exec_txRead1 (s : State) : exec .txRead1 s = exec (.txBuild 0x0001 0x00 0) s := rfl

/-- A word of operation code 5 runs as `TX.BUILD` of its fields; for the one word that decodes to `TX.READ1`
these are the fields `TX.READ1` stands for. -/
theorem exec_decodeWord_txBuild {w : CommandWord} (s : State) (h : cwOp w = 0x5) :
    exec (decodeWord w) s = exec (.txBuild (cwA w) (cwB w) (cwC w)) s := by
  by_cases hread1 : w = read1Word
  · subst hread1
    exact exec_txRead1 s
  · have hdec : decodeWord w = .txBuild (cwA w) (cwB w) (cwC w) := by simp [decodeWord, h, hread1]
    rw [hdec]

/-- With its payload written, `TX.BUILD` appends the frame and completes. -/
theorem exec_txBuild_of_written {plen : BitVec 8} {p : List Byte} {s : State} (cmd : Word) (addr : Byte)
    (hle : plen.toNat ≤ 250) (hp : memSpan s.tf.pbuf 0 plen.toNat = some p) :
    exec (.txBuild cmd addr plen) s = .next (answer .ok { s with tf := { s.tf with
      txout := s.tf.txout ++ buildFrame cmd p addr, txDone := true, txErr := false, txCause := 0 } }) := by
  rcases txBuildEffect_cases cmd addr plen s with ⟨hgt, -⟩ | ⟨-, hnone, -⟩ | ⟨q, -, hq, heff⟩
  · omega
  · simp [hp] at hnone
  · obtain rfl : p = q := Option.some.inj (hp.symm.trans hq)
    rw [exec_txBuild, heff, report_done]
    rfl

/-- With an element of its payload never written, `TX.BUILD` is refused. -/
theorem exec_txBuild_of_unwritten {plen : BitVec 8} {s : State} (cmd : Word) (addr : Byte)
    (hle : plen.toNat ≤ 250) (hp : memSpan s.tf.pbuf 0 plen.toNat = none) :
    exec (.txBuild cmd addr plen) s = .next (answer (.refused .unwrittenRead) s) := by
  rcases txBuildEffect_cases cmd addr plen s with ⟨hgt, -⟩ | ⟨-, -, heff⟩ | ⟨q, -, hq, -⟩
  · omega
  · rw [exec_txBuild, heff, report_refused]
  · simp [hp] at hq

/-- Above `PMAX` `TX.BUILD` faults in every state, with its status cleared before the fault is recorded (R254). -/
theorem exec_txBuild_of_gt {plen : BitVec 8} (cmd : Word) (addr : Byte) (s : State) (hgt : 250 < plen.toNat) :
    exec (.txBuild cmd addr plen) s = .next (answer (.fault (.lengthOverflow plen)) { s with
      tf := { s.tf with txDone := false, txErr := true, txCause := 2 } }) := by
  rcases txBuildEffect_cases cmd addr plen s with ⟨-, heff⟩ | ⟨hle, -⟩ | ⟨q, hle, -⟩
  · rw [exec_txBuild, heff, report_raised, takeFault_eq]
    rfl
  · omega
  · omega

/-- Settles O18: what the elements of `PBUF` say one by one is what their span is, and the span decides between
the frame and the refusal. -/
theorem txBuildEmitsOneFrame : Obligations.TxBuildEmitsOneFrame := by
  refine ⟨fun w s => exec_decodeWord_txBuild s, fun cmd addr plen s =>
    ⟨fun p hle hlen hread => ?_, fun j hle hj hnone => ?_, exec_txBuild_of_gt cmd addr s⟩⟩
  · refine exec_txBuild_of_written cmd addr hle (memSpan_eq_some_iff.mpr ⟨hlen, fun j hj => ?_⟩)
    rw [Nat.zero_add, hread j hj]
  · refine exec_txBuild_of_unwritten cmd addr hle (memSpan_eq_none_iff.mpr ⟨j, hj, ?_⟩)
    rw [Nat.zero_add, hnone]

end Sys2Proof.Proofs.TxFramer

/-!
PROOFS. The receive deframer (42_rx_deframer.md): the slice of a notification (R140), `RX.BYTE` in each of its five
states (R147 to R151), `RX.END` (R152), and the direct loading of a payload (R154, R155).
-/

namespace Sys2Proof.Proofs.RxDeframer

open Sys2Proof Sys2Proof.Machine Sys2Proof.Claims

/-! ## The slice of a notification (R140) -/

/-- A notification shorter than its envelope is not deframed. -/
theorem deframe_of_length_lt {f : List Byte} (h : f.length < 6) : deframe f = none := if_pos h

/-- With the envelope complete, the outer length at index 2 alone decides what `deframe` gives. -/
theorem deframe_of_outer_length {f : List Byte} {l : Byte} (hlen : 6 ≤ f.length) (hl : f[2]? = some l) :
    deframe f =
      if l.toNat < 4 then none
      else if f.length < l.toNat + 2 then none
      else some ((f.drop 6).take (l.toNat - 4)) := by
  have hread : f.getD Config.rxLenIdx 0 = l := by
    rw [List.getD_eq_getElem?_getD, Config.rxLenIdx, hl, Option.getD_some]
  unfold deframe
  rw [hread]
  exact if_neg (Nat.not_lt.mpr hlen)

/-- Settles O23: the four clauses are the branches of `deframe`; the payload is a slice of bytes that are there. -/
theorem deframeSlices : Obligations.DeframeSlices := by
  refine fun f => ⟨deframe_of_length_lt, fun l hlen hl hlow => ?_, fun l hlen hl hge hshort => ?_,
    fun l hlen hl hge hfull => ?_⟩
  · rw [deframe_of_outer_length hlen hl, if_pos hlow]
  · rw [deframe_of_outer_length hlen hl, if_neg (by omega), if_pos hshort]
  · refine ⟨(f.drop 6).take (l.toNat - 4), ?_, ?_, fun k hk => ?_⟩
    · rw [deframe_of_outer_length hlen hl, if_neg (by omega), if_neg (by omega)]
    · rw [List.length_take, List.length_drop]
      omega
    · rw [List.getElem?_take_of_lt hk, List.getElem?_drop]

/-! ## `RX.BYTE` (R147 to R151) -/

/-- Operation code 8 is `RX.BYTE` of the field `b`, whatever the other operand bits. -/
theorem decodeWord_rxByte {w : CommandWord} (h : cwOp w = 0x8) : decodeWord w = .rxByte (cwB w) := by
  simp [decodeWord, h]

/-- `RX.BYTE` reports what its effect is. -/
theorem exec_rxByte (b : Byte) (s : State) : exec (.rxByte b) s = report s (rxByteEffect b s) := rfl

/-- In `R_IDLE` the frame is started and the byte taken as its first envelope byte. -/
theorem exec_rxByte_of_idle {s : State} (b : Byte) (h : s.rd.rxs = .idle) :
    exec (.rxByte b) s = .next (answer .ok (takeEnvelope b (startFrame s))) := by
  have heff : rxByteEffect b s = .done (takeEnvelope b (startFrame s)) .ok := by
    simpa [h] using rxByteEffect_cases b s
  rw [exec_rxByte, heff, report_done]

/-- In `R_ENV` the byte is an envelope byte. -/
theorem exec_rxByte_of_env {s : State} (b : Byte) (h : s.rd.rxs = .env) :
    exec (.rxByte b) s = report s (rxEnvelopeByte b s) := by
  have heff : rxByteEffect b s = rxEnvelopeByte b s := by simpa [h] using rxByteEffect_cases b s
  rw [exec_rxByte, heff]

/-- In `R_PAY` the byte is stored, as long as `PL_LEN` is an index of `PLBUF`. -/
theorem exec_rxByte_of_pay {s : State} (b : Byte) (h : s.rd.rxs = .pay) (hlt : s.pl.plLen.toNat < 1069) :
    exec (.rxByte b) s = .next (answer .ok (storePayload b s)) := by
  have heff : rxByteEffect b s = .done (storePayload b s) .ok := by
    simpa [h, hlt, Nat.not_le.mpr hlt] using rxByteEffect_cases b s
  rw [exec_rxByte, heff, report_done]

/-- In `R_TAIL` and `R_FAULT` the byte is dropped. -/
theorem exec_rxByte_of_tail_or_fault {s : State} (b : Byte) (h : s.rd.rxs = .tail ∨ s.rd.rxs = .fault) :
    exec (.rxByte b) s = .next (answer .ok s) := by
  have heff : rxByteEffect b s = .done s .ok := by
    rcases h with h | h <;> simpa [h] using rxByteEffect_cases b s
  rw [exec_rxByte, heff, report_done]

/-! ### Starting a frame (R147) -/

/-- The start of a frame with its first envelope byte, field by field: index 0 is not the one `RX_L` is latched at. -/
theorem takeEnvelope_startFrame (b : Byte) (s : State) :
    takeEnvelope b (startFrame s) = { s with
      rd := { rxs := .env, rxCnt := 1, rxL := 0, rxNeed := 0, rxDone := false, rxErr := false, rxCause := 0 }
      pl := { s.pl with plLen := 0 } } := rfl

/-- Settles O24: the row of the decoder, and the started frame written out. -/
theorem rxByteStartsAFrame : Obligations.RxByteStartsAFrame :=
  ⟨fun _ => decodeWord_rxByte, fun b s hidle => by rw [exec_rxByte_of_idle b hidle, takeEnvelope_startFrame]⟩

/-! ### The envelope (R148) -/

/-- The latch of `RX_L` is decided by `RX_CNT` as a number, so by `RX_CNT` itself. -/
theorem takeEnvelope_eq {b l : Byte} {s : State} (hl : l = if s.rd.rxCnt = 2 then b else s.rd.rxL) :
    takeEnvelope b s = { s with rd := { s.rd with rxL := l, rxCnt := s.rd.rxCnt + 1 } } := by
  have hidx : s.rd.rxCnt.toNat = Config.rxLenIdx ↔ s.rd.rxCnt = 2 := BitVec.toNat_inj (y := 2#9)
  rw [hl, takeEnvelope]
  simp only [hidx]

/-- The end of an envelope with outer length 4: the payload is empty and complete. -/
theorem announcePayload_of_eq {s : State} (h : s.rd.rxL = 4) :
    announcePayload s = { s with rd := { s.rd with rxNeed := 0, rxs := .tail } } := by
  simp [announcePayload, h, Config.rxLenAdj]

/-- The end of an envelope with outer length above 4: the payload is announced. -/
theorem announcePayload_of_gt {s : State} (h : 4 < s.rd.rxL.toNat) :
    announcePayload s = { s with rd := { s.rd with rxNeed := s.rd.rxL - 4, rxs := .pay } } := by
  have hne : s.rd.rxL - BitVec.ofNat 8 Config.rxLenAdj ≠ 0 := by
    rw [Config.rxLenAdj]
    bv_omega
  simp only [announcePayload, if_neg hne]
  rfl

/-- Before the sixth byte `R_ENV` goes on. -/
theorem exec_rxByte_of_env_inside {s : State} (b : Byte) (h : s.rd.rxs = .env) (hcnt : s.rd.rxCnt + 1 ≠ 6) :
    exec (.rxByte b) s = .next (answer .ok (takeEnvelope b s)) := by
  rw [exec_rxByte_of_env b h]
  rcases rxEnvelopeByte_cases b s with ⟨-, heff⟩ | ⟨hsix, -⟩ | ⟨hsix, -⟩
  · rw [heff, report_done]
  · exact absurd (BitVec.eq_of_toNat_eq hsix) hcnt
  · exact absurd (BitVec.eq_of_toNat_eq hsix) hcnt

/-- The sixth byte with an outer length below 4 finds the frame bad. -/
theorem exec_rxByte_of_env_short {s : State} (b : Byte) (h : s.rd.rxs = .env) (hcnt : s.rd.rxCnt = 5)
    (hlow : (takeEnvelope b s).rd.rxL.toNat < 4) :
    exec (.rxByte b) s =
      .next (takeFault (.shortFrame ((takeEnvelope b s).rd.rxL.setWidth 9)) (setRxs .fault (takeEnvelope b s))) := by
  rw [exec_rxByte_of_env b h]
  rcases rxEnvelopeByte_cases b s with ⟨hne, -⟩ | ⟨-, -, heff⟩ | ⟨-, hge, -⟩
  · simp [hcnt] at hne
  · rw [heff, report_raised]
  · omega

/-- The sixth byte with an outer length of at least 4 ends the envelope. -/
theorem exec_rxByte_of_env_complete {s : State} (b : Byte) (h : s.rd.rxs = .env) (hcnt : s.rd.rxCnt = 5)
    (hge : 4 ≤ (takeEnvelope b s).rd.rxL.toNat) :
    exec (.rxByte b) s = .next (answer .ok (announcePayload (takeEnvelope b s))) := by
  rw [exec_rxByte_of_env b h]
  rcases rxEnvelopeByte_cases b s with ⟨hne, -⟩ | ⟨-, hlow, -⟩ | ⟨-, -, heff⟩
  · simp [hcnt] at hne
  · omega
  · rw [heff, report_done]

/-- Settles O25: the byte inside the envelope, then the sixth byte by the outer length. -/
theorem rxByteTakesTheEnvelope : Obligations.RxByteTakesTheEnvelope := by
  intro b l s henv hl
  have htake := takeEnvelope_eq hl
  have hrxL : (takeEnvelope b s).rd.rxL = l := by rw [htake]
  refine ⟨fun hcnt => ?_, fun hcnt hlow => ?_, fun hcnt hfour => ?_, fun hcnt hgt => ?_⟩
  · rw [exec_rxByte_of_env_inside b henv hcnt, htake]
  · rw [exec_rxByte_of_env_short b henv hcnt (hrxL ▸ hlow), takeFault_eq, htake, hcnt]
    rfl
  · have hge : 4 ≤ l.toNat := by simp [hfour]
    rw [exec_rxByte_of_env_complete b henv hcnt (hrxL ▸ hge), announcePayload_of_eq (hrxL.trans hfour), htake, hcnt]
    rfl
  · rw [exec_rxByte_of_env_complete b henv hcnt (hrxL ▸ hgt.le),
      announcePayload_of_gt (hrxL ▸ hgt), htake, hcnt]
    rfl

/-! ### The payload (R149) -/

/-- Below the end of `PLBUF` the length does not wrap, so the payload ends at `RX_NEED` as a number. -/
theorem storePayload_eq {s : State} (b : Byte) (h : s.rd.rxs = .pay) (hlt : s.pl.plLen.toNat < 1069) :
    storePayload b s = { s with
      rd := { s.rd with
        rxCnt := s.rd.rxCnt + 1
        rxs := if s.pl.plLen.toNat + 1 = s.rd.rxNeed.toNat then .tail else .pay }
      pl := { plbuf := memWrite s.pl.plbuf s.pl.plLen.toNat b, plLen := s.pl.plLen + 1 } } := by
  have hnext : (s.pl.plLen + 1).toNat = s.pl.plLen.toNat + 1 := by bv_omega
  rw [← hnext, ← h]
  rfl

/-- Settles O26: the new `PLBUF` is the old one with one write, which the laws of the byte buffers describe. -/
theorem rxByteStoresThePayload : Obligations.RxByteStoresThePayload := by
  intro b s hpay hlt
  refine ⟨memWrite s.pl.plbuf s.pl.plLen.toNat b, ?_, memRead_memWrite_same _ _ _,
    fun j hj => memRead_memWrite_other _ _ j b hj⟩
  rw [exec_rxByte_of_pay b hpay hlt, storePayload_eq b hpay hlt]

/-! ### Dropped bytes (R150, R151) -/

/-- Settles O27: both states drop the byte by one rule. -/
theorem rxByteIsDropped : Obligations.RxByteIsDropped := fun b _ h => exec_rxByte_of_tail_or_fault b h

/-! ## `RX.END` (R152) -/

/-- Operation code 9 is `RX.END`, whatever the operand bits. -/
theorem decodeWord_rxEnd {w : CommandWord} (h : cwOp w = 0x9) : decodeWord w = .rxEnd := by simp [decodeWord, h]

/-- `RX.END` reports what its effect is. -/
theorem exec_rxEnd (s : State) : exec .rxEnd s = report s (rxEndEffect s) := rfl

/-- From `R_TAIL` the frame is complete. -/
theorem exec_rxEnd_of_tail {s : State} (h : s.rd.rxs = .tail) :
    exec .rxEnd s = .next (answer .ok { s with rd := { s.rd with rxDone := true, rxs := .idle } }) := by
  have heff : rxEndEffect s = .done (setRxs .idle (setRxDone s)) .ok := by simpa [h] using rxEndEffect_cases s
  rw [exec_rxEnd, heff, report_done]
  rfl

/-- From `R_PAY` and `R_ENV` the frame is short, and the fault reports how many bytes came. -/
theorem exec_rxEnd_of_pay_or_env {s : State} (h : s.rd.rxs = .pay ∨ s.rd.rxs = .env) :
    exec .rxEnd s = .next (answer (.fault (.shortFrame s.rd.rxCnt)) { s with
      rd := { s.rd with rxErr := true, rxCause := 3, rxs := .idle }
      pl := { s.pl with plLen := 0 } }) := by
  have heff : rxEndEffect s = .raised (.shortFrame s.rd.rxCnt) (setRxs .idle (setPlLen 0 s)) := by
    rcases h with h | h <;> simpa [h] using rxEndEffect_cases s
  rw [exec_rxEnd, heff, report_raised, takeFault_eq]
  rfl

/-- From `R_FAULT`, where the fault was already taken, the deframer only goes back to `R_IDLE`. -/
theorem exec_rxEnd_of_fault {s : State} (h : s.rd.rxs = .fault) :
    exec .rxEnd s = .next (answer .ok { s with rd := { s.rd with rxs := .idle } }) := by
  have heff : rxEndEffect s = .done (setRxs .idle s) .ok := by simpa [h] using rxEndEffect_cases s
  rw [exec_rxEnd, heff, report_done]
  rfl

/-- From `R_IDLE` it ends a frame of no bytes. -/
theorem exec_rxEnd_of_idle {s : State} (h : s.rd.rxs = .idle) :
    exec .rxEnd s = .next (answer (.fault (.shortFrame 0)) { s with
      rd := { rxs := .idle, rxCnt := 0, rxL := 0, rxNeed := 0, rxDone := false, rxErr := true, rxCause := 3 }
      pl := { s.pl with plLen := 0 } }) := by
  have heff : rxEndEffect s = .raised (.shortFrame 0) (setPlLen 0 (clearRxCounts (clearRxStatus s))) := by
    simpa [h] using rxEndEffect_cases s
  rw [exec_rxEnd, heff, report_raised, takeFault_eq, ← h]
  rfl

/-- Settles O28: the row of the decoder, and the five states. -/
theorem rxEndByState : Obligations.RxEndByState :=
  ⟨fun _ => decodeWord_rxEnd,
    fun _ => ⟨exec_rxEnd_of_tail, exec_rxEnd_of_pay_or_env, exec_rxEnd_of_fault, exec_rxEnd_of_idle⟩⟩

/-! ## `PL.WRITE` (R154) -/

/-- Operation code 10 is `PL.WRITE` of the fields `a` and `b`. -/
theorem decodeWord_plWrite {w : CommandWord} (h : cwOp w = 0xA) : decodeWord w = .plWrite (cwA w) (cwB w) := by
  simp [decodeWord, h]

/-- `PL.WRITE` reports what its effect is. -/
theorem exec_plWrite (i : BitVec 16) (b : Byte) (s : State) :
    exec (.plWrite i b) s = report s (plWriteEffect i b s) := rfl

/-- Between frames and up to index 1068 `PL.WRITE` completes with the element written. -/
theorem exec_plWrite_of_le {i : BitVec 16} {s : State} (b : Byte) (hidle : s.rd.rxs = .idle) (hle : i.toNat ≤ 1068) :
    exec (.plWrite i b) s = .next (answer .ok (setPlbuf i.toNat b s)) := by
  rcases plWriteEffect_cases i b s with ⟨hbusy, -⟩ | ⟨-, -, heff⟩ | ⟨-, hgt, -⟩
  · exact absurd hidle hbusy
  · rw [exec_plWrite, heff, report_done]
  · omega

/-- While a frame is in progress `PL.WRITE` is refused, whatever the index. -/
theorem exec_plWrite_of_busy {s : State} (i : BitVec 16) (b : Byte) (hbusy : s.rd.rxs ≠ .idle) :
    exec (.plWrite i b) s = .next (answer (.refused .frameInProgress) s) := by
  rcases plWriteEffect_cases i b s with ⟨-, heff⟩ | ⟨hidle, -⟩ | ⟨hidle, -⟩
  · rw [exec_plWrite, heff, report_refused]
  · exact absurd hidle hbusy
  · exact absurd hidle hbusy

/-- Between frames `PL.WRITE` is refused above index 1068. -/
theorem exec_plWrite_of_gt {i : BitVec 16} {s : State} (b : Byte) (hidle : s.rd.rxs = .idle) (hgt : 1068 < i.toNat) :
    exec (.plWrite i b) s = .next (answer (.refused .indexRange) s) := by
  rcases plWriteEffect_cases i b s with ⟨hbusy, -⟩ | ⟨-, hle, -⟩ | ⟨-, -, heff⟩
  · exact absurd hidle hbusy
  · omega
  · rw [exec_plWrite, heff, report_refused]

/-- Settles O31: the new `PLBUF` is the old one with one write, which the laws of the byte buffers describe. -/
theorem plWriteWritesOneElement : Obligations.PlWriteWritesOneElement := by
  refine ⟨fun w => decodeWord_plWrite, fun i b s =>
    ⟨fun hidle hle => ?_, exec_plWrite_of_busy i b, exec_plWrite_of_gt b⟩⟩
  exact ⟨memWrite s.pl.plbuf i.toNat b, exec_plWrite_of_le b hidle hle, memRead_memWrite_same _ _ _,
    fun j hj => memRead_memWrite_other _ _ j b hj⟩

/-! ## `PL.SETLEN` (R155) -/

/-- Operation code 11 is `PL.SETLEN` of the field `a`. -/
theorem decodeWord_plSetlen {w : CommandWord} (h : cwOp w = 0xB) : decodeWord w = .plSetlen (cwA w) := by
  simp [decodeWord, h]

/-- `PL.SETLEN` reports what its effect is. -/
theorem exec_plSetlen (n : BitVec 16) (s : State) : exec (.plSetlen n) s = report s (plSetlenEffect n s) := rfl

/-- Between frames, up to `PL_MAX` and over written elements, `PL.SETLEN` completes. -/
theorem exec_plSetlen_of_written {n : BitVec 16} {s : State} (hidle : s.rd.rxs = .idle) (hle : n.toNat ≤ 1069)
    (hwritten : (memSpan s.pl.plbuf 0 n.toNat).isSome) :
    exec (.plSetlen n) s = .next (answer .ok (setPlLen (n.setWidth 11) s)) := by
  rcases plSetlenEffect_cases n s with ⟨hbusy, -⟩ | ⟨-, -, hnone, -⟩ | ⟨-, -, -, heff⟩ | ⟨-, hgt, -⟩
  · exact absurd hidle hbusy
  · simp [hnone] at hwritten
  · rw [exec_plSetlen, heff, report_done]
  · omega

/-- While a frame is in progress `PL.SETLEN` is refused, whatever the length. -/
theorem exec_plSetlen_of_busy {s : State} (n : BitVec 16) (hbusy : s.rd.rxs ≠ .idle) :
    exec (.plSetlen n) s = .next (answer (.refused .frameInProgress) s) := by
  rcases plSetlenEffect_cases n s with ⟨-, heff⟩ | ⟨hidle, -⟩ | ⟨hidle, -⟩ | ⟨hidle, -⟩
  · rw [exec_plSetlen, heff, report_refused]
  all_goals exact absurd hidle hbusy

/-- Between frames `PL.SETLEN` is refused above `PL_MAX`. -/
theorem exec_plSetlen_of_gt {n : BitVec 16} {s : State} (hidle : s.rd.rxs = .idle) (hgt : 1069 < n.toNat) :
    exec (.plSetlen n) s = .next (answer (.refused .indexRange) s) := by
  rcases plSetlenEffect_cases n s with ⟨hbusy, -⟩ | ⟨-, hle, -⟩ | ⟨-, hle, -⟩ | ⟨-, -, heff⟩
  · exact absurd hidle hbusy
  · omega
  · omega
  · rw [exec_plSetlen, heff, report_refused]

/-- Between frames and up to `PL_MAX`, `PL.SETLEN` is refused over an element that was never written. -/
theorem exec_plSetlen_of_unwritten {n : BitVec 16} {s : State} (hidle : s.rd.rxs = .idle) (hle : n.toNat ≤ 1069)
    (hnone : memSpan s.pl.plbuf 0 n.toNat = none) :
    exec (.plSetlen n) s = .next (answer (.refused .unwrittenRead) s) := by
  rcases plSetlenEffect_cases n s with ⟨hbusy, -⟩ | ⟨-, -, -, heff⟩ | ⟨-, -, hsome, -⟩ | ⟨-, hgt, -⟩
  · exact absurd hidle hbusy
  · rw [exec_plSetlen, heff, report_refused]
  · simp [hnone] at hsome
  · omega

/-- Settles O32: what the elements of `PLBUF` say one by one is what their span is, and the span decides between
the new length and the refusal. -/
theorem plSetlenSetsTheLength : Obligations.PlSetlenSetsTheLength := by
  refine ⟨fun w => decodeWord_plSetlen, fun n s => ⟨fun hidle hle hwritten => ?_, exec_plSetlen_of_busy n,
    exec_plSetlen_of_gt, fun j hidle hle hj hnone => ?_⟩⟩
  · have hspan : (memSpan s.pl.plbuf 0 n.toNat).isSome :=
      memSpan_isSome_iff.mpr fun j hj => by rw [Nat.zero_add]; exact hwritten j hj
    rw [exec_plSetlen_of_written hidle hle hspan, BitVec.ofNat_toNat]
    rfl
  · refine exec_plSetlen_of_unwritten hidle hle (memSpan_eq_none_iff.mpr ⟨j, hj, ?_⟩)
    rw [Nat.zero_add, hnone]

end Sys2Proof.Proofs.RxDeframer

/-!
PROOFS. The extractor (43_extract_pipeline.md): `TD.READ` (R180), whose results `tdReadEffect_cases` lays apart once;
a lemma here names the case of each hypothesis.
-/

namespace Sys2Proof.Proofs.ExtractPipeline

open Sys2Proof Sys2Proof.Machine Sys2Proof.Claims

/-! ## `TD.READ` (R180) -/

/-- Operation code 13 is `TD.READ` of the field `a`. -/
theorem decodeWord_tdRead {w : CommandWord} (h : cwOp w = 0xD) : decodeWord w = .tdRead (cwA w) := by
  simp [decodeWord, h]

/-- `TD.READ` reports what its effect is. -/
theorem exec_tdRead (k : BitVec 16) (s : State) : exec (.tdRead k) s = report s (tdReadEffect k s) := rfl

/-- An entry of a valid snapshot is the result, and the block stays as it is. -/
theorem exec_tdRead_of_entry {k : BitVec 16} {s : State} {x : Entry} (hvalid : s.te.tdValid = true)
    (hlt : k.toNat < s.te.snapCnt.toNat) (hx : s.te.snap[k.toNat]? = some x) :
    exec (.tdRead k) s = .next (answer (.entry x) s) := by
  rcases tdReadEffect_cases k s with ⟨hinvalid, -⟩ | ⟨-, hge, -⟩ | ⟨-, -, ⟨y, hy, heff⟩ | ⟨hnone, -⟩⟩
  · simp [hvalid] at hinvalid
  · omega
  · obtain rfl : x = y := Option.some.inj (hx.symm.trans hy)
    rw [exec_tdRead, heff, report_done]
  · simp [hx] at hnone

/-- Without a valid snapshot `TD.READ` is refused, whatever the index. -/
theorem exec_tdRead_of_not_valid {s : State} (k : BitVec 16) (hinvalid : s.te.tdValid = false) :
    exec (.tdRead k) s = .next (answer (.refused .snapshotNotValid) s) := by
  rcases tdReadEffect_cases k s with ⟨-, heff⟩ | ⟨hvalid, -⟩ | ⟨hvalid, -⟩
  · rw [exec_tdRead, heff, report_refused]
  all_goals simp [hinvalid] at hvalid

/-- A valid snapshot has no entry from `SNAP_CNT` on: `TD.READ` is refused there. -/
theorem exec_tdRead_of_ge {k : BitVec 16} {s : State} (hvalid : s.te.tdValid = true)
    (hge : s.te.snapCnt.toNat ≤ k.toNat) :
    exec (.tdRead k) s = .next (answer (.refused .indexRange) s) := by
  rcases tdReadEffect_cases k s with ⟨hinvalid, -⟩ | ⟨-, -, heff⟩ | ⟨-, hlt, -⟩
  · simp [hvalid] at hinvalid
  · rw [exec_tdRead, heff, report_refused]
  · omega

/-- Settles O48: the row of the decoder, and the three cases of the snapshot. -/
theorem tdReadReturnsTheEntry : Obligations.TdReadReturnsTheEntry :=
  ⟨fun _ => decodeWord_tdRead,
    fun k _ => ⟨fun _ => exec_tdRead_of_entry, exec_tdRead_of_not_valid k, exec_tdRead_of_ge⟩⟩

end Sys2Proof.Proofs.ExtractPipeline

/-!
PROOFS. Refusals and reset (60_exceptions.md, 70_reset_and_hazards.md): which refusal an effect ends in, unit by unit
(R266, R267), and the values `SYS.RESET` writes (R270, R281).
-/

namespace Sys2Proof.Proofs.Exceptions

open Sys2Proof Sys2Proof.Machine Sys2Proof.Claims

/-! ## The refusal of an effect (R266) -/

/-- The refusal an effect ends in: `some why` where the operation is refused for `why`, `none` where it completes with
a result that is no refusal, raises a fault, or the model stops. -/
def RefusalIs (r : Option RefusalReason) : Effect → Prop
  | .done _ x => r = none ∧ ∀ why, x ≠ .refused why
  | .raised _ _ => r = none
  | .refused why => r = some why
  | .stopped _ => r = none

@[simp] theorem refusalIs_done {r : Option RefusalReason} {s : State} {x : Result} :
    RefusalIs r (.done s x) ↔ r = none ∧ ∀ why, x ≠ .refused why := Iff.rfl
@[simp] theorem refusalIs_raised {r : Option RefusalReason} {f : BlockFault} {s : State} :
    RefusalIs r (.raised f s) ↔ r = none := Iff.rfl
@[simp] theorem refusalIs_refused {r : Option RefusalReason} {why : RefusalReason} :
    RefusalIs r (.refused why) ↔ r = some why := Iff.rfl
@[simp] theorem refusalIs_stopped {r : Option RefusalReason} {why : Fault} :
    RefusalIs r (.stopped why) ↔ r = none := Iff.rfl

/-- An effect whose refusal is `why` is reported as that, from the state the operation began in. -/
theorem report_of_refusalIs_some {e : Effect} {why : RefusalReason} (h : RefusalIs (some why) e) (s : State) :
    report s e = .next (answer (.refused why) s) := by
  cases e with
  | refused why' =>
    obtain rfl : why = why' := Option.some.inj h
    exact report_refused s why
  | done => simp at h
  | raised => simp at h
  | stopped => simp at h

/-- An effect without a refusal gives the host none: the last result in the log is another. -/
theorem results_ne_of_refusalIs_none {e : Effect} (h : RefusalIs none e) {s t : State} (ht : report s e = .next t)
    (log : List Result) (why : RefusalReason) : t.host.results ≠ log ++ [.refused why] := by
  rcases report_cases ht with ⟨u, x, rfl, rfl⟩ | ⟨f, u, rfl, rfl⟩ | ⟨why', rfl, -⟩
  · obtain ⟨-, hx⟩ := refusalIs_done.mp h
    simp [hx why]
  · simp [takeFault_eq]
  · simp at h

/-- Chaining operations that are not refused is not refused. -/
theorem refusalIs_none_andThen {e : Effect} {f : State → Effect} (he : RefusalIs none e)
    (hf : ∀ t, RefusalIs none (f t)) : RefusalIs none (e.andThen f) := by
  cases e with
  | done t x => exact hf t
  | raised w t => exact he
  | refused why => simp at he
  | stopped why => exact he

/-! ## The framer -/

/-- `TX.LOAD` is refused as the table says. -/
theorem txLoadEffect_refusal (i : BitVec 16) (b : Byte) (s : State) :
    RefusalIs (refusalOf (.txLoad i b) s) (txLoadEffect i b s) := by
  rcases txLoadEffect_cases i b s with ⟨hle, heff⟩ | ⟨hgt, heff⟩ <;> rw [heff]
  · simp [refusalOf, hle]
  · simp [refusalOf, hgt]

/-- `TX.BUILD` is refused as the table says: a length above `PMAX` faults before `PBUF` is looked at (R128). -/
theorem txBuildEffect_refusal (cmd : Word) (addr : Byte) (plen : BitVec 8) (s : State) :
    RefusalIs (refusalOf (.txBuild cmd addr plen) s) (txBuildEffect cmd addr plen s) := by
  have hspan : memSpan s.tf.pbuf 0 plen.toNat = none ↔ ∃ j, j < plen.toNat ∧ memRead s.tf.pbuf j = none := by
    simpa using memSpan_eq_none_iff (m := s.tf.pbuf) (i := 0)
  rcases txBuildEffect_cases cmd addr plen s with ⟨hgt, heff⟩ | ⟨hle, hnone, heff⟩ | ⟨p, hle, hsome, heff⟩ <;>
    rw [heff]
  · simp [refusalOf, hgt]
  · simp only [refusalIs_refused, refusalOf, ← hspan]
    exact if_pos ⟨hle, hnone⟩
  · simp [refusalOf, ← hspan, hsome]

/-- A frame sent as one object is never refused. -/
theorem sendFrameEffect_not_refused (cmd : Word) (addr : Byte) (ps : List Byte) (s : State) :
    RefusalIs none (sendFrameEffect cmd addr ps s) := by
  rcases sendFrameEffect_cases cmd addr ps s with ⟨-, heff⟩ | ⟨-, heff⟩ <;> simp [heff]

/-! ## The deframer -/

/-- An envelope byte is never refused. -/
theorem rxEnvelopeByte_not_refused (b : Byte) (s : State) : RefusalIs none (rxEnvelopeByte b s) := by
  rcases rxEnvelopeByte_cases b s with ⟨-, heff⟩ | ⟨-, -, heff⟩ | ⟨-, -, heff⟩ <;> simp [heff]

/-- `RX.BYTE` is never refused. -/
theorem rxByteEffect_not_refused (b : Byte) (s : State) : RefusalIs none (rxByteEffect b s) := by
  rcases rxByteEffect_cases b s with ⟨-, heff⟩ | ⟨-, heff⟩ | ⟨-, -, heff⟩ | ⟨-, -, heff⟩ | ⟨-, heff⟩ <;> rw [heff]
  case inr.inl => exact rxEnvelopeByte_not_refused b s
  all_goals simp

/-- `RX.END` is never refused. -/
theorem rxEndEffect_not_refused (s : State) : RefusalIs none (rxEndEffect s) := by
  rcases rxEndEffect_cases s with ⟨-, heff⟩ | ⟨-, heff⟩ | ⟨-, heff⟩ | ⟨-, heff⟩ <;> simp [heff]

/-- A notification received as one object is never refused, since neither its bytes nor its end is. -/
theorem deliver_not_refused (bs : List Byte) (first : Option BlockFault) (s : State) :
    RefusalIs none (deliver bs first s) := by
  induction bs generalizing first s with
  | nil =>
    have hend := rxEndEffect_not_refused s
    unfold deliver
    split
    · rfl
    · exact hend
  | cons b bs ih =>
    have hbyte := rxByteEffect_not_refused b s
    unfold deliver
    split
    · exact ih _ _
    · exact ih _ _
    · exact hbyte

/-- `PL.WRITE` is refused as the table says. -/
theorem plWriteEffect_refusal (i : BitVec 16) (b : Byte) (s : State) :
    RefusalIs (refusalOf (.plWrite i b) s) (plWriteEffect i b s) := by
  rcases plWriteEffect_cases i b s with ⟨hbusy, heff⟩ | ⟨hidle, hle, heff⟩ | ⟨hidle, hgt, heff⟩ <;> rw [heff]
  · simp [refusalOf, hbusy]
  · simp [refusalOf, hidle, hle]
  · simp [refusalOf, hidle, hgt]

/-- `PL.SETLEN` is refused as the table says. -/
theorem plSetlenEffect_refusal (n : BitVec 16) (s : State) :
    RefusalIs (refusalOf (.plSetlen n) s) (plSetlenEffect n s) := by
  have hspan : memSpan s.pl.plbuf 0 n.toNat = none ↔ ∃ j, j < n.toNat ∧ memRead s.pl.plbuf j = none := by
    simpa using memSpan_eq_none_iff (m := s.pl.plbuf) (i := 0)
  rcases plSetlenEffect_cases n s with
    ⟨hbusy, heff⟩ | ⟨hidle, hle, hnone, heff⟩ | ⟨hidle, hle, hsome, heff⟩ | ⟨hidle, hgt, heff⟩ <;> rw [heff]
  · simp [refusalOf, hbusy]
  · simp [refusalOf, hidle, Nat.not_lt.mpr hle, ← hspan, hnone]
  · simp [refusalOf, hidle, Nat.not_lt.mpr hle, ← hspan, Option.isSome_iff_ne_none.mp hsome]
  · simp [refusalOf, hidle, hgt]

/-! ## The extractor -/

/-- The stages of one field are never refused. -/
theorem runStages_not_refused (d : Descriptor) (idx : BitVec 8) (s : State) : RefusalIs none (runStages d idx s) := by
  rcases runStages_cases d idx s with ⟨-, heff⟩ | ⟨-, -, heff⟩ | ⟨-, -, heff⟩ | ⟨sr, -, -, -, heff⟩ <;> simp [heff]

/-- A pass of an array descriptor is never refused. -/
theorem arrayPass_not_refused (d : Descriptor) (count : BitVec 8) (s : State) :
    RefusalIs none (arrayPass d count s) := by
  rcases arrayPass_cases d count s with ⟨-, heff⟩ | ⟨-, heff⟩ <;> rw [heff]
  · simp
  · exact refusalIs_none_andThen (runStages_not_refused _ _ _) fun t => by simp

/-- A pass of a descriptor is never refused. -/
theorem descriptorPass_not_refused (d : Descriptor) (s : State) : RefusalIs none (descriptorPass d s) := by
  unfold descriptorPass
  cases d.rep with
  | once => exact refusalIs_none_andThen (runStages_not_refused _ _ _) fun t => by simp
  | countN => exact arrayPass_not_refused _ _ _
  | countTN => exact arrayPass_not_refused _ _ _

/-- Any number of passes of a descriptor is never refused. -/
theorem repeatPass_not_refused (d : Descriptor) (k : Nat) (s : State) : RefusalIs none (repeatPass d k s) := by
  induction k generalizing s with
  | zero => simp [repeatPass]
  | succ k ih => exact refusalIs_none_andThen (descriptorPass_not_refused d s) ih

/-- A walk over descriptors is never refused. -/
theorem runDescriptors_not_refused (ds : List Descriptor) (s : State) : RefusalIs none (runDescriptors ds s) := by
  induction ds generalizing s with
  | nil => simp [runDescriptors]
  | cons d ds ih => exact refusalIs_none_andThen (repeatPass_not_refused d _ s) ih

/-- `TD.DECODE` is never refused. -/
theorem tdDecodeEffect_not_refused (s : State) : RefusalIs none (tdDecodeEffect s) :=
  refusalIs_none_andThen (runDescriptors_not_refused _ _) fun t => by simp

/-- `TD.READ` is refused as the table says. -/
theorem tdReadEffect_refusal (k : BitVec 16) (s : State) : RefusalIs (refusalOf (.tdRead k) s) (tdReadEffect k s) := by
  rcases tdReadEffect_cases k s with
    ⟨hinvalid, heff⟩ | ⟨hvalid, hge, heff⟩ | ⟨hvalid, hlt, ⟨x, -, heff⟩ | ⟨-, heff⟩⟩ <;> rw [heff]
  · simp [refusalOf, hinvalid]
  · simp [refusalOf, hvalid, hge]
  · simp [refusalOf, hvalid, hlt]
  · simp [refusalOf, hvalid, hlt]

/-! ## The table of R267 over the instructions -/

/-- An operation reports an effect, and is refused as the table says. -/
def RefusedByTable (i : Instr) (s : State) : Prop :=
  ∃ e, exec i s = report s e ∧ RefusalIs (refusalOf i s) e

/-- Every operation of a command word is refused as the table says. -/
theorem refusedByTable_of_cw {i : Instr} (h : i.format = .cw) (s : State) : RefusedByTable i s := by
  cases i with
  | crcInit => exact ⟨.done _ _, rfl, rfl, nofun⟩
  | crcByte b => exact ⟨.done _ _, rfl, rfl, nofun⟩
  | crcRead => exact ⟨.done _ _, rfl, rfl, nofun⟩
  | reserved3 => exact ⟨.refused _, rfl, rfl⟩
  | txLoad i b => exact ⟨_, rfl, txLoadEffect_refusal i b s⟩
  | txBuild cmd addr plen => exact ⟨_, rfl, txBuildEffect_refusal cmd addr plen s⟩
  | reserved6 => exact ⟨.refused _, rfl, rfl⟩
  | reserved7 => exact ⟨.refused _, rfl, rfl⟩
  | rxByte b => exact ⟨_, rfl, rxByteEffect_not_refused b s⟩
  | rxEnd => exact ⟨_, rfl, rxEndEffect_not_refused s⟩
  | plWrite i b => exact ⟨_, rfl, plWriteEffect_refusal i b s⟩
  | plSetlen n => exact ⟨_, rfl, plSetlenEffect_refusal n s⟩
  | tdDecode => exact ⟨_, rfl, tdDecodeEffect_not_refused s⟩
  | tdRead k => exact ⟨_, rfl, tdReadEffect_refusal k s⟩
  | reservedE => exact ⟨.refused _, rfl, rfl⟩
  | sysReset => exact ⟨.done _ _, rfl, rfl, nofun⟩
  | txRead1 =>
    -- the `TX.BUILD` it stands for reads no element of `PBUF` (R129)
    have hnone : refusalOf (.txBuild Config.cmdRead1 0 0) s = none := by simp [refusalOf]
    exact ⟨_, rfl, hnone ▸ txBuildEffect_refusal Config.cmdRead1 0 0 s⟩
  | _ => cases h

/-- A descriptor as an instruction reports one pass of its descriptor. -/
theorem exec_of_tpl {i : Instr} (h : i.format = .tpl) : ∃ d, ∀ s, exec i s = report s (descriptorPass d s) := by
  cases i
  case onlineStatus | batteriesSeriesNumber | cellIVoltage | maxCellNumber | maxCellVoltage | minCellNumber
      | minCellVoltage | totalCurrent | soc | soh | actualCapacity | surplusCapacity | nominalCapacity
      | batteriesTemperatureNumber | cellTemperatureI | environmentalTemperature | pcbTemperature
      | maxTemperatureCellNumber | maxTemperatureCellValue | minTemperatureCellNumber | minTemperatureCellValue
      | fault1 | fault2 | alert1 | alert2 | alert3 | alert4 | cycleIndex | totalVoltage | status
      | totalChargingCapacity | totalDischargeCapacity | totalRechargeTime | totalDischargeTime | batteryType =>
    exact ⟨_, fun _ => rfl⟩
  all_goals cases h

/-- The table has no row for anything but a command word. -/
theorem refusalOf_of_format_ne_cw {i : Instr} (h : i.format ≠ .cw) (s : State) : refusalOf i s = none := by
  cases i with
  | reserved3 | txLoad | txBuild | reserved6 | reserved7 | plWrite | plSetlen | tdRead | reservedE =>
    exact absurd rfl h
  | _ => rfl

/-- Every instruction but a pseudo-operation is refused as the table says. -/
theorem refusedByTable {i : Instr} (h : i.format ≠ .pseudo) (s : State) : RefusedByTable i s := by
  by_cases hcw : i.format = .cw
  · exact refusedByTable_of_cw hcw s
  rw [RefusedByTable, refusalOf_of_format_ne_cw hcw]
  cases hf : i.format with
  | cw => exact absurd hf hcw
  | pseudo => exact absurd hf h
  | txf =>
    cases i with
    | txf cmd addr ps => exact ⟨_, rfl, sendFrameEffect_not_refused cmd addr ps s⟩
    | _ => cases hf
  | rxf =>
    cases i with
    | rxf fs => exact ⟨_, rfl, deliver_not_refused fs none s⟩
    | _ => cases hf
  | tpl =>
    obtain ⟨d, hd⟩ := exec_of_tpl hf
    exact ⟨_, hd s, descriptorPass_not_refused d s⟩

/-- Settles O52: an operation reports an effect whose refusal is the table's, and the report of an effect is the
refusal it ends in or no refusal at all. -/
theorem refusalsAreThoseOfTheTable : Obligations.RefusalsAreThoseOfTheTable := by
  intro i s hi
  obtain ⟨e, hexec, href⟩ := refusedByTable hi s
  rw [hexec]
  split
  next why hsome => exact report_of_refusalIs_some (hsome ▸ href) s
  next hnone =>
    intro t why ht
    exact results_ne_of_refusalIs_none (hnone ▸ href) ht _ why

/-! ## `SYS.RESET` (R270, R281) -/

/-- Operation code 15 is `SYS.RESET`, whatever the operand bits. -/
theorem decodeWord_sysReset {w : CommandWord} (h : cwOp w = 0xF) : decodeWord w = .sysReset := by simp [decodeWord, h]

/-- `SYS.RESET` completes in every state with the block at its reset values and the host's port kept. -/
theorem exec_sysReset (s : State) : exec .sysReset s = .next (answer .ok { State.reset with host := s.host }) := rfl

/-- Settles O53: the row of the decoder, the values `State.reset` holds, and two buffers with no element written. -/
theorem resetGivesTheResetValues : Obligations.ResetGivesTheResetValues :=
  ⟨fun _ => decodeWord_sysReset, exec_sysReset, fun s => ⟨_, exec_sysReset s, rfl, rfl, rfl, rfl, rfl⟩,
    memRead_nil, memRead_nil⟩

end Sys2Proof.Proofs.Exceptions

/-!
PROOFS. The encoding (30_encoding.md): the command word as its four fields (R70), what the decoder reads back of an
encoded instruction, word by word, frame by frame and descriptor by descriptor, and what an encoded word keeps of the
word it was decoded from (R73).
-/

namespace Sys2Proof.Proofs.CommandWord

open Sys2Proof Sys2Proof.Machine Sys2Proof.Claims Sys2Proof.Proofs.TxFramer

/-! ## The four fields of a command word (R70) -/

/-- The bits of a packed word, from the field `c` up to the operation code. -/
theorem getLsbD_packCW (op : BitVec 4) (a : BitVec 16) (b c : BitVec 8) (k : Nat) :
    (packCW op a b c).getLsbD k =
      if k < 8 then c.getLsbD k else if k < 16 then b.getLsbD (k - 8)
      else if k < 32 then a.getLsbD (k - 16) else op.getLsbD (k - 32) := by
  simp only [packCW, BitVec.getLsbD_append]
  grind

@[simp] theorem cwOp_packCW (op : BitVec 4) (a : BitVec 16) (b c : BitVec 8) : cwOp (packCW op a b c) = op := by
  ext k hk
  simp only [← BitVec.getLsbD_eq_getElem, cwOp, BitVec.getLsbD_extractLsb', getLsbD_packCW]
  grind

@[simp] theorem cwA_packCW (op : BitVec 4) (a : BitVec 16) (b c : BitVec 8) : cwA (packCW op a b c) = a := by
  ext k hk
  simp only [← BitVec.getLsbD_eq_getElem, cwA, BitVec.getLsbD_extractLsb', getLsbD_packCW]
  grind

@[simp] theorem cwB_packCW (op : BitVec 4) (a : BitVec 16) (b c : BitVec 8) : cwB (packCW op a b c) = b := by
  ext k hk
  simp only [← BitVec.getLsbD_eq_getElem, cwB, BitVec.getLsbD_extractLsb', getLsbD_packCW]
  grind

@[simp] theorem cwC_packCW (op : BitVec 4) (a : BitVec 16) (b c : BitVec 8) : cwC (packCW op a b c) = c := by
  ext k hk
  simp only [← BitVec.getLsbD_eq_getElem, cwC, BitVec.getLsbD_extractLsb', getLsbD_packCW]
  grind

/-- A word is its four fields: R70 leaves no bit out. -/
theorem packCW_fields (w : CommandWord) : packCW (cwOp w) (cwA w) (cwB w) (cwC w) = w := by
  ext k hk
  simp only [← BitVec.getLsbD_eq_getElem, getLsbD_packCW, cwOp, cwA, cwB, cwC, BitVec.getLsbD_extractLsb']
  grind

/-- A mask that is packed from fields masks field by field. -/
theorem packCW_and (op op' : BitVec 4) (a a' : BitVec 16) (b b' c c' : BitVec 8) :
    packCW op a b c &&& packCW op' a' b' c' = packCW (op &&& op') (a &&& a') (b &&& b') (c &&& c') := by
  ext k hk
  simp only [← BitVec.getLsbD_eq_getElem, BitVec.getLsbD_and, getLsbD_packCW]
  grind

/-! ## Encoding what was decoded (R70, R73) -/

/-- The used bits of R70 are whole fields, and the operation code is one of them. -/
theorem usedBits_eq_packCW (op : BitVec 4) :
    usedBits op = packCW 0xF (if op ∈ [0x4#4, 0x5#4, 0xA#4, 0xB#4, 0xD#4] then BitVec.allOnes 16 else 0)
      (if op ∈ [0x1#4, 0x4#4, 0x5#4, 0x8#4, 0xA#4] then BitVec.allOnes 8 else 0)
      (if op = 0x5#4 then BitVec.allOnes 8 else 0) := by
  revert op
  decide

/-- The word of the row `TX.READ1` as fields. -/
theorem packCW_eq_read1Word_iff (a : BitVec 16) (b c : BitVec 8) :
    packCW 0x5 a b c = read1Word ↔ a = Config.cmdRead1 ∧ b = 0 ∧ c = 0 := by
  have hread1 : read1Word = packCW 0x5 Config.cmdRead1 0 0 := by decide
  rw [hread1]
  refine ⟨fun h => ⟨by simpa using congrArg cwA h, by simpa using congrArg cwB h, by simpa using congrArg cwC h⟩, ?_⟩
  rintro ⟨rfl, rfl, rfl⟩
  rfl

/-- Any other word of operation code 5 is `TX.BUILD` of its fields. -/
theorem decodeWord_packCW_txBuild {a : BitVec 16} {b c : BitVec 8} (h : packCW 0x5#4 a b c ≠ read1Word) :
    decodeWord (packCW 0x5#4 a b c) = .txBuild a b c := by
  simp [decodeWord, h]

/-- Operation code 5 encodes back whole, whether it was read as `TX.BUILD` or as `TX.READ1`. -/
theorem encodeWord_decodeWord_txBuild (a : BitVec 16) (b c : BitVec 8) :
    encodeWord (decodeWord (packCW 0x5 a b c)) = some (packCW 0x5 a b c) := by
  by_cases hread1 : packCW 0x5 a b c = read1Word
  · obtain ⟨rfl, rfl, rfl⟩ := (packCW_eq_read1Word_iff a b c).mp hread1
    decide
  · exact (congrArg encodeWord (decodeWord_packCW_txBuild hread1)).trans rfl

/-- Row by row of R70: what the decoder reads is encoded again in the fields it stood in, and the rest is zero. -/
theorem encodeWord_decodeWord_packCW (op : BitVec 4) (a : BitVec 16) (b c : BitVec 8) :
    encodeWord (decodeWord (packCW op a b c)) = some (packCW op a b c &&& usedBits op) := by
  have keep16 : ∀ v : BitVec 16, v &&& 65535#16 = v := fun v => BitVec.and_allOnes
  have keep8 : ∀ v : BitVec 8, v &&& 255#8 = v := fun v => BitVec.and_allOnes
  rw [usedBits_eq_packCW, packCW_and]
  by_cases hbuild : op = 0x5
  · subst hbuild
    simpa [keep16, keep8] using encodeWord_decodeWord_txBuild a b c
  have hop : op ∈ ((List.finRange 16).map BitVec.ofFin).erase 0x5#4 := by revert op; decide
  fin_cases hop <;> simp [decodeWord, encodeWord, keep16, keep8]

/-- Settles O2: a word is its four fields, and each row of the table keeps the fields it reads. -/
theorem encodeOfDecodeKeepsUsedBits : Obligations.EncodeOfDecodeKeepsUsedBits := by
  intro w
  have h := encodeWord_decodeWord_packCW (cwOp w) (cwA w) (cwB w) (cwC w)
  rwa [packCW_fields] at h

/-! ## Decoding what was encoded -/

/-- A host operation is read back from its word; of the two rows of operation code 5 each from its own (R129). -/
theorem decodeWord_of_encodeWord {i : Instr} {w : CommandWord} (hwf : i.wellFormed = true)
    (hw : encodeWord i = some w) : decodeWord w = i := by
  cases i
  case txBuild cmd addr plen =>
    obtain rfl := Option.some.inj hw
    refine decodeWord_packCW_txBuild fun hread1 => ?_
    obtain ⟨rfl, rfl, rfl⟩ := (packCW_eq_read1Word_iff cmd addr plen).mp hread1
    cases hwf
  case txRead1 =>
    obtain rfl := Option.some.inj hw
    decide
  case crcInit | crcByte | crcRead | reserved3 | txLoad | reserved6 | reserved7 | rxByte | rxEnd | plWrite
      | plSetlen | tdDecode | tdRead | reservedE | sysReset =>
    obtain rfl := Option.some.inj hw
    simp [decodeWord]
  all_goals cases hw

/-- Every host operation has a word, and that word is its encoding. -/
theorem encode_of_cw {i : Instr} (h : i.format = .cw) : ∃ w, encodeWord i = some w ∧ encode i = .word w := by
  cases i
  case crcInit | crcByte | crcRead | reserved3 | txLoad | txBuild | reserved6 | reserved7 | rxByte | rxEnd | plWrite
      | plSetlen | tdDecode | tdRead | reservedE | sysReset | txRead1 =>
    exact ⟨_, rfl, rfl⟩
  all_goals cases h

/-- The bytes of a frame one by one, with `c` the checksum of its body (R74). -/
theorem buildFrame_eq_cons (cmd : Word) (p : List Byte) (addr : Byte) {c : Word}
    (hc : c = crc16 ([addr, BitVec.ofNat 8 (5 + p.length), 0x00, hi8 cmd, lo8 cmd] ++ p)) :
    buildFrame cmd p addr = 0x7A :: addr :: BitVec.ofNat 8 (5 + p.length) :: 0x00 :: hi8 cmd :: lo8 cmd ::
      (p ++ [hi8 c, lo8 c, 0xA7]) := by
  rw [buildFrame_eq rfl, ← hc]
  simp

/-- Every check of R74 passes on a built frame, and its fields are read back. -/
theorem decodeOutbound_buildFrame (cmd : Word) (addr : Byte) {p : List Byte} (hp : p.length ≤ 250) :
    decodeOutbound (buildFrame cmd p addr) = .ok (.txf cmd addr p) := by
  have hlen : (5 + p.length) % 256 = 5 + p.length := Nat.mod_eq_of_lt (by omega)
  rw [buildFrame_eq_cons cmd p addr rfl, decodeOutbound]
  simp [Config.hdr, Config.nRsv, Config.sof, Config.eof, u16be_hi8_lo8, hlen]
  rw [if_neg (by omega), if_pos (by omega)]

/-- A descriptor is read back from its index of the table (R42, R85). -/
theorem decode_encode_of_tpl {i : Instr} (h : i.format = .tpl) : decode (encode i) = .ok i := by
  cases i
  case onlineStatus | batteriesSeriesNumber | cellIVoltage | maxCellNumber | maxCellVoltage | minCellNumber
      | minCellVoltage | totalCurrent | soc | soh | actualCapacity | surplusCapacity | nominalCapacity
      | batteriesTemperatureNumber | cellTemperatureI | environmentalTemperature | pcbTemperature
      | maxTemperatureCellNumber | maxTemperatureCellValue | minTemperatureCellNumber | minTemperatureCellValue
      | fault1 | fault2 | alert1 | alert2 | alert3 | alert4 | cycleIndex | totalVoltage | status
      | totalChargingCapacity | totalDischargeCapacity | totalRechargeTime | totalDischargeTime | batteryType => rfl
  all_goals cases h

/-- Settles O1: each format has its own reader, and a pseudo-operation has no encoding of its own. -/
theorem decodeOfEncodeIsTheInstruction : Obligations.DecodeOfEncodeIsTheInstruction := by
  intro i hwf hpseudo
  cases hf : i.format with
  | cw =>
    obtain ⟨w, hw, henc⟩ := encode_of_cw hf
    rw [henc, decode, decodeWord_of_encodeWord hwf hw]
  | pseudo => exact absurd hf hpseudo
  | txf =>
    cases i with
    | txf cmd addr ps => exact decodeOutbound_buildFrame cmd addr (of_decide_eq_true hwf)
    | _ => cases hf
  | rxf =>
    cases i with
    | rxf fs => rfl
    | _ => cases hf
  | tpl => exact decode_encode_of_tpl hf

/-- Settles O5: each printed word, read through the table of R70. -/
theorem printedWordsDecode : Obligations.PrintedWordsDecode := by
  unfold Obligations.PrintedWordsDecode
  decide

/-! ## The step on the host's list (logs 1, 3, 14) -/

/-- With a word pending, a step takes it off the list and carries it out. -/
theorem step_of_pending {s : State} {cw : CommandWord} {rest : List CommandWord} (h : s.host.pending = cw :: rest) :
    step s = exec (decodeWord cw) { s with host := { s.host with pending := rest } } := by
  rw [step, h]

/-- With none pending, a step leaves the state as it is. -/
theorem step_of_idle {s : State} (h : s.host.pending = []) : step s = .next s := by rw [step, h]

/-- Settles O7: the two cases of the list; a word put in front of it is taken off again by the step. -/
theorem stepRunsTheDecodedWord : Obligations.StepRunsTheDecodedWord :=
  ⟨fun _ _ _ => step_of_pending, fun _ => step_of_idle, fun _ _ _ => step_of_pending rfl⟩

end Sys2Proof.Proofs.CommandWord

/-!
PROOFS. The decode as a function of the payload (43_extract_pipeline.md R176 to R185). A walk stops at the first field that
is not all there (`Halt`), and wherever it stands its cursor, counts and entries are those of its position (`Layout`).
-/

namespace Sys2Proof.Proofs.Walk

open Sys2Proof Sys2Proof.Machine Sys2Proof.Claims

/-! ## The walk with the place where it stops -/

/-- Where a walk found a field that runs past the payload: the field, its element, and the walk up to it. -/
structure Halt where
  fid  : Nat
  li   : Nat
  walk : Walk

/-- The fault R176 raises there. -/
def Halt.fault (h : Halt) : BlockFault :=
  .truncatedPayload (BitVec.ofNat 6 h.fid) (BitVec.ofNat 8 h.li) (BitVec.ofNat 11 h.walk.cur)

/-- The entry of a field whose first byte is at an offset of the payload. -/
def entryAt (p : List Byte) (d : Descriptor) (idx off : Nat) : Entry :=
  entryOf d (BitVec.ofNat 8 idx) (BitVec.ofNat 16 (rawAt p d.width off))

/-- The walk after a field that is there. -/
def readField (p : List Byte) (d : Descriptor) (idx : Nat) (w : Walk) : Walk where
  cur := w.cur + d.width.bytes
  n := if d.fid = 1 then rawAt p d.width w.cur else w.n
  tn := if d.fid = 13 then rawAt p d.width w.cur else w.tn
  snap := w.snap ++ [entryAt p d idx w.cur]

/-- `walkField` with the place where it stops. -/
def haltField (p : List Byte) (d : Descriptor) (idx : Nat) (w : Walk) : Except Halt Walk :=
  if p.length < w.cur + d.width.bytes then .error ⟨d.fid.toNat, idx, w⟩ else .ok (readField p d idx w)

/-- `walkElements` with the place where it stops. -/
def haltElements (p : List Byte) (d : Descriptor) : Nat → Nat → Walk → Except Halt Walk
  | _, 0, w => .ok w
  | li, k + 1, w =>
    match haltField p d li w with
    | .ok v => haltElements p d (li + 1) k v
    | .error h => .error h

/-- One descriptor of a walk, by how often it is read. -/
def haltDescriptor (p : List Byte) (d : Descriptor) (w : Walk) : Except Halt Walk :=
  match d.rep with
  | .once => haltField p d 0 w
  | .countN => haltElements p d 1 w.n w
  | .countTN => haltElements p d 1 w.tn w

/-- `walkDescriptors` with the place where it stops. -/
def haltDescriptors (p : List Byte) : List Descriptor → Walk → Except Halt Walk
  | [], w => .ok w
  | d :: ds, w =>
    match haltDescriptor p d w with
    | .ok v => haltDescriptors p ds v
    | .error h => .error h

/-- `decodeWalk` with the place where it stops. -/
def haltWalk (p : List Byte) : Except Halt Walk := haltDescriptors p descriptorTable ⟨0, 0, 0, []⟩

/-! ### It is the walk of R176 -/

/-- A raw value is a 16-bit number. -/
theorem rawAt_lt (p : List Byte) (w : FieldWidth) (off : Nat) : rawAt p w off < 65536 := by
  have h0 := (p.getD off 0).isLt
  have h1 := (p.getD (off + 1) 0).isLt
  cases w <;> simp only [rawAt] <;> omega

/-- The raw value of a one-byte field, as the extractor's shift register holds it. -/
theorem zext16_eq_rawAt (p : List Byte) (off : Nat) : zext16 (p.getD off 0) = BitVec.ofNat 16 (rawAt p .u8 off) := by
  rw [rawAt, ← zext16_toNat, BitVec.ofNat_toNat, BitVec.setWidth_eq]

/-- The raw value of a two-byte field, as the extractor's shift register holds it. -/
theorem u16be_eq_rawAt (p : List Byte) (off : Nat) :
    u16be (p.getD off 0) (p.getD (off + 1) 0) = BitVec.ofNat 16 (rawAt p .u16 off) := by
  rw [rawAt, ← u16be_toNat, BitVec.ofNat_toNat, BitVec.setWidth_eq]

/-- A raw value loses nothing in its 16 bits. -/
theorem rawAt_mod (p : List Byte) (w : FieldWidth) (off : Nat) : rawAt p w off % 2 ^ 16 = rawAt p w off :=
  Nat.mod_eq_of_lt (rawAt_lt p w off)

/-- One field of R176. -/
theorem walkField_eq (p : List Byte) (d : Descriptor) (idx : Nat) (w : Walk) :
    walkField p d idx w = (haltField p d idx w).mapError Halt.fault := by
  unfold walkField haltField readField entryAt
  split
  · simp [Except.mapError, Halt.fault]
  · cases d.width with
    | u8 => simp only [zext16_eq_rawAt, BitVec.toNat_ofNat, rawAt_mod, Except.mapError]
    | u16 => simp only [u16be_eq_rawAt, BitVec.toNat_ofNat, rawAt_mod, Except.mapError]

/-- The elements of an array of R176. -/
theorem walkElements_eq (p : List Byte) (d : Descriptor) (li k : Nat) (w : Walk) :
    walkElements p d li k w = (haltElements p d li k w).mapError Halt.fault := by
  induction k generalizing li w with
  | zero => rfl
  | succ k ih =>
    rw [walkElements, haltElements, walkField_eq]
    cases haltField p d li w with
    | ok v => exact ih (li + 1) v
    | error h => rfl

/-- One descriptor of R176, then the others. -/
theorem walkDescriptors_cons (p : List Byte) (d : Descriptor) (ds : List Descriptor) (w : Walk) :
    walkDescriptors p (d :: ds) w =
      ((haltDescriptor p d w).mapError Halt.fault).bind (walkDescriptors p ds) := by
  unfold walkDescriptors haltDescriptor
  cases d.rep with
  | once => simp only [walkField_eq]; cases haltField p d 0 w <;> rfl
  | countN => simp only [walkElements_eq]; cases haltElements p d 1 w.n w <;> rfl
  | countTN => simp only [walkElements_eq]; cases haltElements p d 1 w.tn w <;> rfl

/-- The loop of R176. -/
theorem walkDescriptors_eq (p : List Byte) (ds : List Descriptor) (w : Walk) :
    walkDescriptors p ds w = (haltDescriptors p ds w).mapError Halt.fault := by
  induction ds generalizing w with
  | nil => rfl
  | cons d ds ih =>
    rw [walkDescriptors_cons, haltDescriptors]
    cases haltDescriptor p d w with
    | ok v => exact ih v
    | error h => rfl

/-- `decode(P)` of R176 is the walk with its fault told. -/
theorem decodeWalk_eq (p : List Byte) : decodeWalk p = (haltWalk p).mapError Halt.fault :=
  walkDescriptors_eq p _ _

/-- Where `decode(P)` returns, so does the walk that knows its place. -/
theorem haltWalk_of_ok {p : List Byte} {w : Walk} (h : decodeWalk p = .ok w) : haltWalk p = .ok w := by
  rw [decodeWalk_eq] at h
  cases hw : haltWalk p with
  | ok v => simpa [hw, Except.mapError] using h
  | error e => simp [hw, Except.mapError] at h

/-- Where `decode(P)` raises, the walk stopped at the fault's place. -/
theorem haltWalk_of_error {p : List Byte} {f : BlockFault} (h : decodeWalk p = .error f) :
    ∃ e, haltWalk p = .error e ∧ f = e.fault := by
  rw [decodeWalk_eq] at h
  cases hw : haltWalk p with
  | ok v => simp [hw, Except.mapError] at h
  | error e => exact ⟨e, rfl, by simpa [hw, Except.mapError] using h.symm⟩

/-! ## The table as the walk needs it (R83, R85) -/

/-- Where the sequencer starts a descriptor: an array at its first element. -/
def firstElement (k : Nat) : Nat := if k = 2 ∨ k = 14 then 1 else 0

/-- The elements a field has, when the counts are `n` and `tn`. -/
def HasElement (n tn k i : Nat) : Prop :=
  if k = 2 then 1 ≤ i ∧ i ≤ n else if k = 14 then 1 ≤ i ∧ i ≤ tn else i = 0

/-- What the table says of descriptor `k` by its place alone. -/
structure RowOk (k : Nat) (d : Descriptor) : Prop where
  fid_eq : d.fid = BitVec.ofNat 6 k
  is_n : d.fid = 1 ↔ k = 1
  is_tn : d.fid = 13 ↔ k = 13
  fid_toNat : d.fid.toNat = k
  once_iff : d.rep = .once ↔ k ≠ 2 ∧ k ≠ 14
  countN_iff : d.rep = .countN ↔ k = 2
  countTN_iff : d.rep = .countTN ↔ k = 14
  latch_eq : d.latch = if k = 1 then .n else if k = 13 then .tn else .none
  array_width : k = 2 ∨ k = 14 → d.width = .u16
  count_width : k = 1 ∨ k = 13 → d.width = .u8
  next_offset : ∀ n tn i, d.rep = .once →
    fieldOffset n tn (k + 1) (firstElement (k + 1)) = fieldOffset n tn k i + d.width.bytes
  mask_ok : d.mask = Config.maskNone ∨ d.mask = Config.mask15 ∧ (d.width = .u8 ∨ k = 2 ∨ k = 14)

/-- The table has 35 rows. -/
theorem lt_of_row {k : Nat} {d : Descriptor} (h : descriptorTable[k]? = some d) : k < 35 :=
  (List.getElem?_eq_some_iff.mp h).1

/-- Every row is as its place says. -/
theorem row_ok {k : Nat} {d : Descriptor} (h : descriptorTable[k]? = some d) : RowOk k d := by
  have hk := lt_of_row h
  interval_cases k <;> obtain rfl := Option.some.inj h <;>
    exact ⟨rfl, by decide, by decide, rfl, by decide, by decide, by decide, rfl, by decide, by decide,
      fun n tn i h => by cases h <;> rfl, by decide⟩

/-! ## Where a walk stands -/

/-- The count byte `n` of a payload (R83). -/
def cells (p : List Byte) : Nat := (p.getD 1 0).toNat

/-- The count byte `t_n` of a payload (R83). -/
def temps (p : List Byte) : Nat := (p.getD (20 + 2 * cells p) 0).toNat

/-- Everything a walk over `p` holds when it is about to read element `li` of field `fid`: the counts latched so far, the
offset of that element (R83), and the entry of every field before it at its place. -/
structure Layout (p : List Byte) (fid li : Nat) (w : Walk) : Prop where
  cur_le : w.cur ≤ p.length
  n_eq : w.n = if 1 < fid then cells p else 0
  tn_eq : w.tn = if 13 < fid then temps p else 0
  cur_eq : w.cur = fieldOffset (cells p) (temps p) fid li
  length_eq : w.snap.length = entriesBefore (cells p) (temps p) fid li
  entry : ∀ k i d, descriptorTable[k]? = some d → HasElement (cells p) (temps p) k i → k < fid ∨ k = fid ∧ i < li →
    w.snap[entriesBefore (cells p) (temps p) k i]? = some (entryAt p d i (fieldOffset (cells p) (temps p) k i))

/-- The walk of R176 starts at the first field. -/
theorem layout_start (p : List Byte) : Layout p 0 0 ⟨0, 0, 0, []⟩ :=
  ⟨Nat.zero_le _, rfl, rfl, rfl, rfl, fun k i d _ _ hlt => by omega⟩

/-- Reading the field a walk stands at leads to the next position, if that is one width and one entry further and no
other field lies between. -/
theorem Layout.read {p : List Byte} {fid li fid' li' : Nat} {w : Walk} {d : Descriptor} (h : Layout p fid li w)
    (hd : descriptorTable[fid]? = some d) (hfits : w.cur + d.width.bytes ≤ p.length)
    (hoffset : fieldOffset (cells p) (temps p) fid' li' = fieldOffset (cells p) (temps p) fid li + d.width.bytes)
    (hplace : entriesBefore (cells p) (temps p) fid' li' = entriesBefore (cells p) (temps p) fid li + 1)
    (hbetween : ∀ k i, HasElement (cells p) (temps p) k i → k < fid' ∨ k = fid' ∧ i < li' →
      (k < fid ∨ k = fid ∧ i < li) ∨ k = fid ∧ i = li)
    (hn : (readField p d li w).n = if 1 < fid' then cells p else 0)
    (htn : (readField p d li w).tn = if 13 < fid' then temps p else 0) :
    Layout p fid' li' (readField p d li w) where
  cur_le := hfits
  n_eq := hn
  tn_eq := htn
  cur_eq := by rw [hoffset, ← h.cur_eq]; rfl
  length_eq := by rw [hplace, ← h.length_eq]; simp [readField]
  entry := by
    intro k i e he hfield hlt
    rcases hbetween k i hfield hlt with hold | ⟨rfl, rfl⟩
    · have hentry := h.entry k i e he hfield hold
      exact (List.getElem?_append_left (List.getElem?_eq_some_iff.mp hentry).1).trans hentry
    · obtain rfl : d = e := Option.some.inj (hd.symm.trans he)
      rw [← h.length_eq, ← h.cur_eq]
      exact List.getElem?_concat_length

/-- A position with no element between it and the next is the next. -/
theorem Layout.pass {p : List Byte} {fid li fid' li' : Nat} {w : Walk} (h : Layout p fid li w)
    (hoffset : fieldOffset (cells p) (temps p) fid' li' = fieldOffset (cells p) (temps p) fid li)
    (hplace : entriesBefore (cells p) (temps p) fid' li' = entriesBefore (cells p) (temps p) fid li)
    (hbetween : ∀ k i, HasElement (cells p) (temps p) k i → k < fid' ∨ k = fid' ∧ i < li' → k < fid ∨ k = fid ∧ i < li)
    (hn : 1 < fid ↔ 1 < fid') (htn : 13 < fid ↔ 13 < fid') : Layout p fid' li' w where
  cur_le := h.cur_le
  n_eq := by rw [h.n_eq]; simp only [hn]
  tn_eq := by rw [h.tn_eq]; simp only [htn]
  cur_eq := h.cur_eq.trans hoffset.symm
  length_eq := h.length_eq.trans hplace.symm
  entry := fun k i d hd hfield hlt => h.entry k i d hd hfield (hbetween k i hfield hlt)

/-- Reading a scalar latches `n` if it is descriptor 1, and else leaves what was latched. -/
theorem Layout.read_scalar_n {p : List Byte} {fid : Nat} {w : Walk} {d : Descriptor} (h : Layout p fid 0 w)
    (hd : descriptorTable[fid]? = some d) : (readField p d 0 w).n = if 1 < fid + 1 then cells p else 0 := by
  have hrow := row_ok hd
  simp only [readField, hrow.is_n]
  by_cases hfid : fid = 1
  · subst hfid
    rw [h.cur_eq, hrow.count_width (.inl rfl)]
    rfl
  · rw [if_neg hfid, h.n_eq]
    grind

/-- Reading a scalar latches `t_n` if it is descriptor 13, and else leaves what was latched. -/
theorem Layout.read_scalar_tn {p : List Byte} {fid : Nat} {w : Walk} {d : Descriptor} (h : Layout p fid 0 w)
    (hd : descriptorTable[fid]? = some d) : (readField p d 0 w).tn = if 13 < fid + 1 then temps p else 0 := by
  have hrow := row_ok hd
  simp only [readField, hrow.is_tn]
  by_cases hfid : fid = 13
  · subst hfid
    have hcur : w.cur = 20 + 2 * cells p := by rw [h.cur_eq]; simp only [fieldOffset]; omega
    rw [hcur, hrow.count_width (.inr rfl)]
    rfl
  · rw [if_neg hfid, h.tn_eq]
    grind

/-- A scalar field leads to the next descriptor. -/
theorem Layout.read_scalar {p : List Byte} {fid : Nat} {w : Walk} {d : Descriptor} (h : Layout p fid 0 w)
    (hd : descriptorTable[fid]? = some d) (hrep : d.rep = .once) (hfits : w.cur + d.width.bytes ≤ p.length) :
    Layout p (fid + 1) (firstElement (fid + 1)) (readField p d 0 w) := by
  have hrow := row_ok hd
  have hlt := lt_of_row hd
  have hscalar : fid ≠ 2 ∧ fid ≠ 14 := hrow.once_iff.mp hrep
  refine h.read hd hfits (hrow.next_offset _ _ _ hrep) ?_ ?_ (h.read_scalar_n hd) (h.read_scalar_tn hd)
  · simp only [entriesBefore, scalarPlace, firstElement]
    grind
  · intro k i hfield hk
    simp only [HasElement, firstElement] at hfield hk
    grind

/-- An array element leads to the element after it. -/
theorem Layout.read_element {p : List Byte} {fid li : Nat} {w : Walk} {d : Descriptor} (h : Layout p fid li w)
    (hd : descriptorTable[fid]? = some d) (harray : fid = 2 ∨ fid = 14) (hli : 1 ≤ li)
    (hfits : w.cur + d.width.bytes ≤ p.length) : Layout p fid (li + 1) (readField p d li w) := by
  have hrow := row_ok hd
  have hwidth : d.width.bytes = 2 := by rw [hrow.array_width harray]; rfl
  refine h.read hd hfits ?_ ?_ ?_ ?_ ?_
  · rcases harray with rfl | rfl <;> simp only [fieldOffset, hwidth] <;> omega
  · rcases harray with rfl | rfl <;> simp [entriesBefore] <;> omega
  · intro k i _ hk
    omega
  · rw [← h.n_eq]
    exact if_neg (by rw [hrow.is_n]; omega)
  · rw [← h.tn_eq]
    exact if_neg (by rw [hrow.is_tn]; omega)

/-- The elements an array has. -/
def elements (p : List Byte) (fid : Nat) : Nat := if fid = 2 then cells p else temps p

/-- The elements an array has, by their number. -/
theorem hasElement_array {p : List Byte} {fid li : Nat} (harray : fid = 2 ∨ fid = 14) (hli : 1 ≤ li)
    (hle : li ≤ elements p fid) : HasElement (cells p) (temps p) fid li := by
  rcases harray with rfl | rfl <;> simp [HasElement, elements] at * <;> omega

/-- Behind its last element an array leads to the next descriptor. -/
theorem Layout.leave_array {p : List Byte} {fid : Nat} {w : Walk} (h : Layout p fid (elements p fid + 1) w)
    (harray : fid = 2 ∨ fid = 14) : Layout p (fid + 1) 0 w := by
  refine h.pass ?_ ?_ ?_ (by omega) (by omega)
  · rcases harray with rfl | rfl
    · simp [fieldOffset, elements]
    · simp [fieldOffset, elements]
      omega
  · rcases harray with rfl | rfl
    · simp [entriesBefore, scalarPlace, elements]
      omega
    · simp [entriesBefore, scalarPlace, elements]
      omega
  · intro k i hfield hk
    rcases harray with rfl | rfl <;> simp [HasElement, elements] at * <;> grind

/-! ## Where a walk goes -/

/-- A walk stopped at a field of the payload's layout whose bytes run past its end. -/
structure Stopped (p : List Byte) (h : Halt) : Prop where
  layout : Layout p h.fid h.li h.walk
  field : HasElement (cells p) (temps p) h.fid h.li
  truncated : ∃ d, descriptorTable[h.fid]? = some d ∧ p.length < h.walk.cur + d.width.bytes

/-- A walk reaches a position, or stopped before it. -/
def Reaches (p : List Byte) (fid li : Nat) : Except Halt Walk → Prop
  | .ok v => Layout p fid li v
  | .error h => Stopped p h

@[simp] theorem reaches_ok {p : List Byte} {fid li : Nat} {v : Walk} : Reaches p fid li (.ok v) ↔ Layout p fid li v :=
  Iff.rfl
@[simp] theorem reaches_error {p : List Byte} {fid li : Nat} {h : Halt} : Reaches p fid li (.error h) ↔ Stopped p h :=
  Iff.rfl

/-- One field is read, or the walk stops there. -/
theorem haltField_cases {p : List Byte} {fid li : Nat} {w : Walk} {d : Descriptor} (h : Layout p fid li w)
    (hd : descriptorTable[fid]? = some d) (hfield : HasElement (cells p) (temps p) fid li) :
    (w.cur + d.width.bytes ≤ p.length ∧ haltField p d li w = .ok (readField p d li w)) ∨
      haltField p d li w = .error ⟨fid, li, w⟩ ∧ Stopped p ⟨fid, li, w⟩ := by
  unfold haltField
  by_cases hfits : p.length < w.cur + d.width.bytes
  · rw [if_pos hfits, (row_ok hd).fid_toNat]
    exact .inr ⟨rfl, h, hfield, d, hd, hfits⟩
  · exact .inl ⟨by omega, if_neg hfits⟩

/-- The elements of an array from `li` on, to its end. -/
theorem haltElements_reaches {p : List Byte} {fid : Nat} {d : Descriptor} (hd : descriptorTable[fid]? = some d)
    (harray : fid = 2 ∨ fid = 14) (k : Nat) {li : Nat} {w : Walk} (hli : 1 ≤ li) (hk : li + k = elements p fid + 1)
    (h : Layout p fid li w) : Reaches p fid (elements p fid + 1) (haltElements p d li k w) := by
  induction k generalizing li w with
  | zero =>
    obtain rfl : li = elements p fid + 1 := hk
    exact h
  | succ k ih =>
    have hfield := hasElement_array harray hli (show li ≤ elements p fid by omega)
    rw [haltElements]
    rcases haltField_cases h hd hfield with ⟨hfits, hok⟩ | ⟨herror, hstop⟩
    · rw [hok]
      exact ih (by omega) (by omega) (h.read_element hd harray hli hfits)
    · rw [herror]
      exact hstop

/-- One descriptor, to the next. -/
theorem haltDescriptor_reaches {p : List Byte} {k : Nat} {d : Descriptor} {w : Walk}
    (hd : descriptorTable[k]? = some d) (h : Layout p k (firstElement k) w) :
    Reaches p (k + 1) (firstElement (k + 1)) (haltDescriptor p d w) := by
  have array : k = 2 ∨ k = 14 → Reaches p (k + 1) (firstElement (k + 1)) (haltElements p d 1 (elements p k) w) := by
    intro harray
    have hfirst : firstElement k = 1 := if_pos harray
    have hnext : firstElement (k + 1) = 0 := if_neg (by omega)
    rw [hfirst] at h
    have hreach := haltElements_reaches hd harray (elements p k) le_rfl (by omega) h
    rw [hnext]
    cases hw : haltElements p d 1 (elements p k) w with
    | ok v => rw [hw] at hreach; exact hreach.leave_array harray
    | error e => rw [hw] at hreach; exact hreach
  have hrow := row_ok hd
  unfold haltDescriptor
  cases hrep : d.rep with
  | once =>
    have hscalar := hrow.once_iff.mp hrep
    have hfirst : firstElement k = 0 := if_neg (by omega)
    have hfield : HasElement (cells p) (temps p) k 0 := by simp [HasElement, hscalar]
    rw [hfirst] at h
    rcases haltField_cases h hd hfield with ⟨hfits, hok⟩ | ⟨herror, hstop⟩
    · simpa only [hok, reaches_ok] using h.read_scalar hd hrep hfits
    · simpa only [herror, reaches_error] using hstop
  | countN =>
    obtain rfl := hrow.countN_iff.mp hrep
    have hn : w.n = elements p 2 := h.n_eq
    simpa only [hn] using array (.inl rfl)
  | countTN =>
    obtain rfl := hrow.countTN_iff.mp hrep
    have htn : w.tn = elements p 14 := h.tn_eq
    simpa only [htn] using array (.inr rfl)

/-- The descriptors from `k` on, to the end of the table. -/
theorem haltDescriptors_reaches {p : List Byte} (ds : List Descriptor) {k : Nat} {w : Walk}
    (hds : descriptorTable.drop k = ds) (hk : k ≤ 35) (h : Layout p k (firstElement k) w) :
    Reaches p 35 0 (haltDescriptors p ds w) := by
  induction ds generalizing k w with
  | nil =>
    obtain rfl : k = 35 := le_antisymm hk (List.drop_eq_nil_iff.mp hds)
    exact h
  | cons d ds ih =>
    have hd : descriptorTable[k]? = some d := by rw [← List.head?_drop, hds]; rfl
    have htail : descriptorTable.drop (k + 1) = ds := by rw [← List.tail_drop, hds]; rfl
    have hone := haltDescriptor_reaches hd h
    rw [haltDescriptors]
    cases hw : haltDescriptor p d w with
    | ok v => rw [hw] at hone; exact ih htail (lt_of_row hd) hone
    | error e => rw [hw] at hone; exact hone

/-- A decode comes to the end of the table, or stops at a field of it. -/
theorem haltWalk_reaches (p : List Byte) : Reaches p 35 0 (haltWalk p) :=
  haltDescriptors_reaches descriptorTable (k := 0) rfl (by omega) (layout_start p)

/-- What `decode(P)` returns is laid out to the end of the table. -/
theorem layout_of_decodeWalk {p : List Byte} {w : Walk} (h : decodeWalk p = .ok w) : Layout p 35 0 w := by
  have hreach := haltWalk_reaches p
  rwa [haltWalk_of_ok h] at hreach

/-! ## The counts not latched yet -/

/-- The offset of a field does not depend on the counts of the arrays behind it. -/
theorem Layout.offset_latched {p : List Byte} {fid li k i : Nat} {w : Walk} (h : Layout p fid li w) (hk : k ≤ fid) :
    fieldOffset w.n w.tn k i = fieldOffset (cells p) (temps p) k i := by
  rw [h.n_eq, h.tn_eq]
  by_cases h13 : 13 < fid
  · rw [if_pos h13, if_pos (by omega)]
  rw [if_neg h13]
  by_cases h1 : 1 < fid
  · rw [if_pos h1]
    have hle : k ≤ 13 := by omega
    interval_cases k <;> rfl
  · have hle : k ≤ 1 := by omega
    interval_cases k <;> rfl

/-- The place of a field does not depend on the counts of the arrays behind it. -/
theorem Layout.place_latched {p : List Byte} {fid li k i : Nat} {w : Walk} (h : Layout p fid li w) (hk : k ≤ fid) :
    entriesBefore w.n w.tn k i = entriesBefore (cells p) (temps p) k i := by
  rw [h.n_eq, h.tn_eq]
  simp only [entriesBefore, scalarPlace]
  grind

/-- The element of an array that a walk has read before it stopped. -/
theorem Stopped.kept_element {p : List Byte} {h : Halt} (hstop : Stopped p h) {k i : Nat} {d : Descriptor}
    (harray : k = 2 ∨ k = 14) (hd : descriptorTable[k]? = some d) (hi : 1 ≤ i)
    (hlt : if h.fid = k then i < h.li else k < h.fid ∧ i ≤ elements p k) :
    h.walk.snap[entriesBefore h.walk.n h.walk.tn k i]? = some (entryAt p d i (fieldOffset h.walk.n h.walk.tn k i)) := by
  have hfield := hstop.field
  have hle : k ≤ h.fid ∧ i ≤ elements p k ∧ (k < h.fid ∨ k = h.fid ∧ i < h.li) := by
    simp only [HasElement, elements] at *
    grind
  obtain ⟨hk, hcount, hbefore⟩ := hle
  rw [hstop.layout.place_latched hk, hstop.layout.offset_latched hk]
  exact hstop.layout.entry k i d hd (hasElement_array harray hi hcount) hbefore

/-! ## The snapshot of a completed decode (R181, R182) -/

/-- A scalar has one element. -/
theorem hasElement_scalar {n tn k : Nat} (h2 : k ≠ 2) (h14 : k ≠ 14) : HasElement n tn k 0 := by
  simp [HasElement, h2, h14]

/-- A scalar is at one offset. -/
theorem fieldOffset_scalar {k : Nat} {d : Descriptor} (hd : descriptorTable[k]? = some d) (hrep : d.rep = .once)
    (n tn i j : Nat) : fieldOffset n tn k i = fieldOffset n tn k j :=
  Nat.add_right_cancel (((row_ok hd).next_offset n tn i hrep).symm.trans ((row_ok hd).next_offset n tn j hrep))

/-- A completed walk has consumed the 49 bytes of the scalars and the bytes of both arrays. -/
theorem Layout.cur_end {p : List Byte} {w : Walk} (h : Layout p 35 0 w) : w.cur = 49 + 2 * cells p + 2 * temps p := by
  rw [h.cur_eq]
  simp only [fieldOffset]
  omega

/-- A complete snapshot holds the 33 scalars and both arrays. -/
theorem Layout.length_end {p : List Byte} {w : Walk} (h : Layout p 35 0 w) :
    w.snap.length = 33 + cells p + temps p := by
  rw [h.length_eq]
  simp [entriesBefore, scalarPlace]
  omega

/-- Settles O44: the position behind the last descriptor has every field before it. -/
theorem snapshotLayout : Obligations.SnapshotLayout := by
  rintro p w hw n tn hn htn
  obtain rfl : n = cells p := hn
  obtain rfl : tn = temps p := htn
  have h := layout_of_decodeWalk hw
  refine ⟨h.n_eq, h.tn_eq, h.cur_end, h.cur_le, h.length_end, fun fid d hd h2 h14 => ?_, fun i hi hle => ?_,
    fun i hi hle => ?_⟩
  · have hentry := h.entry fid 0 d hd (hasElement_scalar h2 h14) (.inl (lt_of_row hd))
    rw [fieldOffset_scalar hd ((row_ok hd).once_iff.mpr ⟨h2, h14⟩) _ _ 0 1] at hentry
    rw [entriesBefore, if_neg h2, if_neg h14] at hentry
    exact hentry
  · exact h.entry 2 i _ rfl ⟨hi, hle⟩ (.inl (by omega))
  · exact h.entry 14 i _ rfl ⟨hi, hle⟩ (.inl (by omega))

/-! ## Every entry and every byte belongs to a field -/

/-- Every place of a complete snapshot is the place of a field. -/
theorem exists_field_of_place {n tn j : Nat} (hj : j < 33 + n + tn) :
    ∃ k i, k < 35 ∧ HasElement n tn k i ∧ entriesBefore n tn k i = j := by
  have scalar : ∀ k, k < 35 → k ≠ 2 → k ≠ 14 → scalarPlace n tn k = j →
      ∃ k i, k < 35 ∧ HasElement n tn k i ∧ entriesBefore n tn k i = j := fun k hk h2 h14 hplace =>
    ⟨k, 0, hk, hasElement_scalar h2 h14, by rw [entriesBefore, if_neg h2, if_neg h14, hplace]⟩
  by_cases h1 : j < 2
  · exact scalar j (by omega) (by omega) (by omega) (if_pos h1)
  by_cases h2 : j < 2 + n
  · exact ⟨2, j - 1, by omega, ⟨by omega, by omega⟩, by simp [entriesBefore]; omega⟩
  by_cases h3 : j < 13 + n
  · exact scalar (j + 1 - n) (by omega) (by omega) (by omega) (by simp only [scalarPlace]; grind)
  by_cases h4 : j < 13 + n + tn
  · exact ⟨14, j - 12 - n, by omega, ⟨by omega, by omega⟩, by simp [entriesBefore]; omega⟩
  · exact scalar (j + 2 - n - tn) (by omega) (by omega) (by omega) (by simp only [scalarPlace]; grind)

/-- A byte of the payload is one of a field's bytes. -/
def InField (n tn b k i : Nat) (d : Descriptor) : Prop :=
  descriptorTable[k]? = some d ∧ HasElement n tn k i ∧ fieldOffset n tn k i ≤ b ∧ b < fieldOffset n tn k i + d.width.bytes

/-- Every byte before descriptor `m` is one of a field's bytes: by induction over the descriptors, each behind the last. -/
theorem exists_field_of_byte {n tn b : Nat} (m : Nat) (hm : m ≤ 35) (hb : b < fieldOffset n tn m (firstElement m)) :
    ∃ k i d, InField n tn b k i d := by
  induction m with
  | zero => simp [fieldOffset] at hb
  | succ m ih =>
    by_cases hprev : b < fieldOffset n tn m (firstElement m)
    · exact ih (by omega) hprev
    obtain ⟨d, hd⟩ : ∃ d, descriptorTable[m]? = some d := ⟨_, List.getElem?_eq_getElem (show m < 35 by omega)⟩
    have hrow := row_ok hd
    have hwidth := hrow.array_width
    by_cases h2 : m = 2
    · subst h2
      refine ⟨2, (b - 2) / 2 + 1, d, hd, ?_, ?_, ?_⟩ <;>
        simp [HasElement, fieldOffset, firstElement, hwidth, FieldWidth.bytes] at * <;> omega
    by_cases h14 : m = 14
    · subst h14
      refine ⟨14, (b - (21 + 2 * n)) / 2 + 1, d, hd, ?_, ?_, ?_⟩ <;>
        simp [HasElement, fieldOffset, firstElement, hwidth, FieldWidth.bytes] at * <;> omega
    · have hfirst : firstElement m = 0 := if_neg (by omega)
      rw [hfirst] at hprev
      refine ⟨m, 0, d, hd, hasElement_scalar h2 h14, by omega, ?_⟩
      rwa [← hrow.next_offset n tn 0 (hrow.once_iff.mpr ⟨h2, h14⟩)]

/-- No field ends behind the last byte of the table. -/
theorem field_end_le {n tn k i : Nat} {d : Descriptor} (hd : descriptorTable[k]? = some d) (hfield : HasElement n tn k i) :
    fieldOffset n tn k i + d.width.bytes ≤ 49 + 2 * n + 2 * tn := by
  have hrow := row_ok hd
  have start_le : ∀ m, m ≤ 35 → fieldOffset n tn m (firstElement m) ≤ 49 + 2 * n + 2 * tn := fun m hm => by
    have hfirst : firstElement m ≤ 1 := by unfold firstElement; split <;> omega
    interval_cases m <;> simp only [fieldOffset] <;> omega
  by_cases harray : k = 2 ∨ k = 14
  · rw [hrow.array_width harray]
    rcases harray with rfl | rfl <;> simp [HasElement, fieldOffset, FieldWidth.bytes] at * <;> omega
  · rw [← hrow.next_offset n tn i (hrow.once_iff.mpr (by omega))]
    exact start_le (k + 1) (lt_of_row hd)

/-- A walk that stopped is over a payload with fewer bytes than the whole table. -/
theorem Stopped.length_lt {p : List Byte} {h : Halt} (hstop : Stopped p h) :
    p.length < 49 + 2 * cells p + 2 * temps p := by
  obtain ⟨d, hd, hshort⟩ := hstop.truncated
  have hend := field_end_le hd hstop.field
  rw [← hstop.layout.cur_eq] at hend
  omega

/-! ## What the snapshot keeps of the payload (R185) -/

/-- The value of an entry: its raw value, less bit 15 where the mask takes it, less the offset. -/
theorem entryAt_q {p : List Byte} {d : Descriptor} (idx off : Nat) :
    (d.mask = Config.maskNone → (entryAt p d idx off).q = (rawAt p d.width off : Int) - d.off) ∧
    (d.mask = Config.mask15 → (entryAt p d idx off).q = ((rawAt p d.width off % 32768 : Nat) : Int) - d.off) := by
  have hraw : (BitVec.ofNat 16 (rawAt p d.width off)).toNat = rawAt p d.width off := rawAt_mod p d.width off
  refine ⟨fun h => ?_, fun h => ?_⟩
  · rw [entryAt, entryOf_maskNone h, hraw]
  · rw [entryAt, entryOf_mask15 h, hraw]

/-- Equal entries of one field come from the same low 15 bits. -/
theorem rawAt_mod_eq_of_entryAt_eq {p q : List Byte} {k idx off : Nat} {d : Descriptor}
    (hd : descriptorTable[k]? = some d) (h : entryAt p d idx off = entryAt q d idx off) :
    rawAt p d.width off % 32768 = rawAt q d.width off % 32768 := by
  have hq := congrArg Entry.q h
  rcases (row_ok hd).mask_ok with hmask | ⟨hmask, -⟩
  · rw [(entryAt_q idx off).1 hmask, (entryAt_q idx off).1 hmask] at hq
    omega
  · rw [(entryAt_q idx off).2 hmask, (entryAt_q idx off).2 hmask] at hq
    omega

/-- Equal entries of one scalar come from the same raw value: a mask on one byte takes nothing. -/
theorem rawAt_eq_of_entryAt_eq {p q : List Byte} {k idx off : Nat} {d : Descriptor}
    (hd : descriptorTable[k]? = some d) (h2 : k ≠ 2) (h14 : k ≠ 14)
    (h : entryAt p d idx off = entryAt q d idx off) : rawAt p d.width off = rawAt q d.width off := by
  rcases (row_ok hd).mask_ok with hmask | ⟨-, hwidth | harray⟩
  · have hq := congrArg Entry.q h
    rw [(entryAt_q idx off).1 hmask, (entryAt_q idx off).1 hmask] at hq
    omega
  · have hmod := rawAt_mod_eq_of_entryAt_eq hd h
    have hp := (p.getD off 0).isLt
    have hq := (q.getD off 0).isLt
    rw [hwidth] at hmod ⊢
    simp only [rawAt] at hmod ⊢
    omega
  · omega

/-- Equal raw values are equal bytes. -/
theorem byte_eq_of_rawAt_eq {p q : List Byte} {w : FieldWidth} {off b : Nat} (h : rawAt p w off = rawAt q w off)
    (hle : off ≤ b) (hlt : b < off + w.bytes) : p.getD b 0 = q.getD b 0 := by
  have hp := (p.getD (off + 1) 0).isLt
  have hq := (q.getD (off + 1) 0).isLt
  apply BitVec.eq_of_toNat_eq
  cases w with
  | u8 =>
    obtain rfl : b = off := by simp [FieldWidth.bytes] at hlt; omega
    exact h
  | u16 =>
    obtain rfl | rfl : b = off ∨ b = off + 1 := by simp [FieldWidth.bytes] at hlt; omega
    all_goals simp only [rawAt] at h; omega

/-- Without bit 15, a raw value of two bytes still gives the low byte and seven bits of the high one. -/
theorem bytes_of_rawAt_mod_eq {p q : List Byte} {off : Nat}
    (h : rawAt p .u16 off % 32768 = rawAt q .u16 off % 32768) :
    p.getD off 0 &&& 0x7F = q.getD off 0 &&& 0x7F ∧ p.getD (off + 1) 0 = q.getD (off + 1) 0 := by
  have seven : ∀ b : Byte, (b &&& 0x7F).toNat = b.toNat % 128 := fun b => by
    rw [BitVec.toNat_and]
    exact Nat.and_two_pow_sub_one_eq_mod _ 7
  have hp := (p.getD (off + 1) 0).isLt
  have hq := (q.getD (off + 1) 0).isLt
  simp only [rawAt] at h
  exact ⟨BitVec.eq_of_toNat_eq (by rw [seven, seven]; omega), BitVec.eq_of_toNat_eq (by omega)⟩

/-- Equal bytes are kept alike. -/
theorem keptByte_eq_of_byte_eq {p q : List Byte} {b : Nat} (n tn : Nat) (h : p.getD b 0 = q.getD b 0) :
    keptByte p n tn b = keptByte q n tn b := by rw [keptByte, keptByte, h]

/-- Payloads whose entries of a field are equal keep the same of each of its bytes. -/
theorem keptByte_eq_of_entryAt_eq {p q : List Byte} {n tn b k i : Nat} {d : Descriptor} (hb : InField n tn b k i d)
    (h : entryAt p d i (fieldOffset n tn k i) = entryAt q d i (fieldOffset n tn k i)) :
    keptByte p n tn b = keptByte q n tn b := by
  obtain ⟨hd, hfield, hle, hlt⟩ := hb
  by_cases harray : k = 2 ∨ k = 14
  · have hmod := rawAt_mod_eq_of_entryAt_eq hd h
    have hwidth := (row_ok hd).array_width harray
    rw [hwidth] at hlt hmod
    obtain ⟨hhigh, hlow⟩ := bytes_of_rawAt_mod_eq hmod
    obtain rfl | rfl : b = fieldOffset n tn k i ∨ b = fieldOffset n tn k i + 1 := by
      simp [FieldWidth.bytes] at hlt
      omega
    · have hflag : (2 ≤ fieldOffset n tn k i ∧ fieldOffset n tn k i < 2 + 2 * n ∧ fieldOffset n tn k i % 2 = 0) ∨
          (21 + 2 * n ≤ fieldOffset n tn k i ∧ fieldOffset n tn k i < 21 + 2 * n + 2 * tn ∧
            fieldOffset n tn k i % 2 = 1) := by
        rcases harray with rfl | rfl <;> simp [HasElement, fieldOffset] at * <;> omega
      rw [keptByte, keptByte, if_pos hflag, if_pos hflag, hhigh]
    · exact keptByte_eq_of_byte_eq n tn hlow
  · have hraw := rawAt_eq_of_entryAt_eq hd (by omega) (by omega) h
    exact keptByte_eq_of_byte_eq n tn (byte_eq_of_rawAt_eq hraw hle hlt)

/-- Completed walks with the same snapshot have the same counts: both are entries, and the cells fix where the second
one stands. -/
theorem counts_eq_of_snap_eq {p q : List Byte} {v w : Walk} (hv : Layout p 35 0 v) (hw : Layout q 35 0 w)
    (hsnap : v.snap = w.snap) : cells p = cells q ∧ temps p = temps q := by
  have hcells : cells p = cells q := by
    have hp := hv.entry 1 0 _ rfl rfl (.inl (by omega))
    have hq := hw.entry 1 0 _ rfl rfl (.inl (by omega))
    rw [hsnap] at hp
    exact rawAt_eq_of_entryAt_eq (k := 1) rfl (by omega) (by omega) (Option.some.inj (hp.symm.trans hq))
  have hlen := hv.length_end.symm.trans ((congrArg List.length hsnap).trans hw.length_end)
  omega

/-- A field whose bytes two payloads share has one entry. -/
theorem entryAt_eq_of_bytes_eq {p q : List Byte} {d : Descriptor} {i off : Nat}
    (h : ∀ b, off ≤ b → b < off + d.width.bytes → p.getD b 0 = q.getD b 0) : entryAt p d i off = entryAt q d i off := by
  have hraw : rawAt p d.width off = rawAt q d.width off := by
    cases hw : d.width with
    | u8 =>
      rw [hw] at h
      rw [rawAt, rawAt, h off le_rfl (by simp [FieldWidth.bytes])]
    | u16 =>
      rw [hw] at h
      rw [rawAt, rawAt, h off le_rfl (by simp [FieldWidth.bytes]), h (off + 1) (by omega) (by simp [FieldWidth.bytes])]
  rw [entryAt, entryAt, hraw]

/-- Payloads that share the bytes of a walk that reached the end of its table have the same count bytes. -/
theorem counts_eq_of_bytes_eq {p q : List Byte} {v : Walk} (hv : Layout p 35 0 v)
    (h : ∀ b, b < v.cur → p.getD b 0 = q.getD b 0) : cells p = cells q ∧ temps p = temps q := by
  have hcur := hv.cur_end
  have hcells : cells p = cells q := congrArg BitVec.toNat (h 1 (by omega))
  refine ⟨hcells, ?_⟩
  rw [temps, temps, ← hcells, h _ (by omega)]

/-- Walks that reached the end of the table over the same bytes are the same walk. -/
theorem walk_eq_of_bytes_eq {p q : List Byte} {v w : Walk} (hv : Layout p 35 0 v) (hw : Layout q 35 0 w)
    (h : ∀ b, b < v.cur → p.getD b 0 = q.getD b 0) : v = w := by
  obtain ⟨hcells, htemps⟩ := counts_eq_of_bytes_eq hv h
  have hcur := hv.cur_end
  have hvlen := hv.length_end
  have hwlen := hw.length_end
  have hsnap : v.snap = w.snap := by
    refine List.ext_getElem? fun j => ?_
    by_cases hj : j < 33 + cells p + temps p
    · obtain ⟨k, i, hk, hfield, rfl⟩ := exists_field_of_place hj
      obtain ⟨d, hd⟩ : ∃ d, descriptorTable[k]? = some d := ⟨_, List.getElem?_eq_getElem hk⟩
      have hend := field_end_le hd hfield
      have hq := hw.entry k i d hd (hcells ▸ htemps ▸ hfield) (.inl hk)
      rw [← hcells, ← htemps] at hq
      rw [hv.entry k i d hd hfield (.inl hk), hq, entryAt_eq_of_bytes_eq fun b _ hb => h b (by omega)]
    · rw [List.getElem?_eq_none (by omega), List.getElem?_eq_none (by omega)]
  have hn : v.n = w.n := hv.n_eq.trans (hcells.trans hw.n_eq.symm)
  have htn : v.tn = w.tn := hv.tn_eq.trans (htemps.trans hw.tn_eq.symm)
  have hc : v.cur = w.cur := by rw [hcur, hw.cur_end, hcells, htemps]
  cases v
  cases w
  simp_all

/-- A payload that holds the bytes of a completed decode decodes alike, whatever follows. -/
theorem decodeWalk_of_bytes_eq {p q : List Byte} {w : Walk} (hw : decodeWalk p = .ok w) (hlen : w.cur ≤ q.length)
    (h : ∀ b, b < w.cur → p.getD b 0 = q.getD b 0) : decodeWalk q = .ok w := by
  have hp := layout_of_decodeWalk hw
  obtain ⟨hcells, htemps⟩ := counts_eq_of_bytes_eq hp h
  cases hq : haltWalk q with
  | ok v =>
    have hv : Layout q 35 0 v := by simpa [hq] using haltWalk_reaches q
    rw [decodeWalk_eq, hq, walk_eq_of_bytes_eq hp hv h]
    rfl
  | error e =>
    have hstop : Stopped q e := by simpa [hq] using haltWalk_reaches q
    have hshort := hstop.length_lt
    rw [← hcells, ← htemps, ← hp.cur_end] at hshort
    omega

/-- Payloads that begin alike have the same bytes there. -/
theorem getD_eq_of_take_eq {p q : List Byte} {c : Nat} (h : q.take c = p.take c) {b : Nat} (hb : b < c) :
    p.getD b 0 = q.getD b 0 := by
  rw [List.getD_eq_getElem?_getD, List.getD_eq_getElem?_getD, ← List.getElem?_take_of_lt hb, ← h,
    List.getElem?_take_of_lt hb]

/-- Settles O46: the entries fix their bytes field by field, and every consumed byte is in a field. -/
theorem decodeLosesOnlyTheFlagBits : Obligations.DecodeLosesOnlyTheFlagBits := by
  refine ⟨fun p q w hw htake => ?_, fun p q v w hv hw hsnap => ?_⟩
  · have hlen := congrArg List.length htake
    have hcur := (layout_of_decodeWalk hw).cur_le
    simp only [List.length_take] at hlen
    exact decodeWalk_of_bytes_eq hw (by omega) fun b hb => getD_eq_of_take_eq htake hb
  · have hp := layout_of_decodeWalk hv
    have hq := layout_of_decodeWalk hw
    obtain ⟨hcells, htemps⟩ := counts_eq_of_snap_eq hp hq hsnap
    refine ⟨by rw [hp.cur_end, hq.cur_end, hcells, htemps], fun b hb => ?_⟩
    have hn : v.n = cells p := hp.n_eq
    have htn : v.tn = temps p := hp.tn_eq
    rw [hp.cur_eq] at hb
    obtain ⟨k, i, d, hbyte⟩ := exists_field_of_byte 35 le_rfl hb
    obtain ⟨hd, hfield, -⟩ := id hbyte
    have hentry := hp.entry k i d hd hfield (.inl (lt_of_row hd))
    have hentry' := hq.entry k i d hd (hcells ▸ htemps ▸ hfield) (.inl (lt_of_row hd))
    rw [← hcells, ← htemps, ← hsnap] at hentry'
    rw [hn, htn]
    exact keptByte_eq_of_entryAt_eq hbyte (Option.some.inj (hentry.symm.trans hentry'))

end Sys2Proof.Proofs.Walk

/-!
PROOFS. The names of a snapshot's entries (43_extract_pipeline.md R181): the two arrays' names are told from each other and
from every scalar's by how they begin, and carry their number.
-/

namespace Sys2Proof.Proofs.Names

open Sys2Proof Sys2Proof.Machine Sys2Proof.Claims Sys2Proof.Proofs.Walk

/-! ## The three forms of a name -/

/-- The name of a cell voltage. -/
theorem entryName_cell (i : BitVec 8) : entryName 2 i = "cell_" ++ (Nat.repr i.toNat ++ "_voltage") := by
  rw [← String.append_assoc]
  rfl

/-- The name of a cell temperature. -/
theorem entryName_temperature (i : BitVec 8) : entryName 14 i = "cell_" ++ ("temperature_" ++ Nat.repr i.toNat) := by
  rw [← String.append_assoc]
  rfl

/-- The name of a scalar is the one its row of the table gives. -/
theorem entryName_scalar {k : Nat} {d : Descriptor} (hd : descriptorTable[k]? = some d) (h2 : k ≠ 2) (h14 : k ≠ 14)
    (i : BitVec 8) : entryName d.fid i = d.name := by
  have hrow := row_ok hd
  have hfid2 : d.fid ≠ 2 := fun h => h2 (hrow.fid_toNat.symm.trans (congrArg BitVec.toNat h))
  have hfid14 : d.fid ≠ 14 := fun h => h14 (hrow.fid_toNat.symm.trans (congrArg BitVec.toNat h))
  rw [entryName, if_neg hfid2, if_neg hfid14, hrow.fid_toNat, hd]
  rfl

/-- No scalar's name begins as the arrays' names do. -/
theorem scalar_name_not_cell {k : Nat} {d : Descriptor} (hd : descriptorTable[k]? = some d) (h2 : k ≠ 2)
    (h14 : k ≠ 14) (s : String) : d.name ≠ "cell_" ++ s := by
  have rows : ∀ k < 35, k ≠ 2 → k ≠ 14 → ∀ d, descriptorTable[k]? = some d → d.name.toList.take 5 ≠ "cell_".toList := by
    decide
  intro h
  refine rows k (lt_of_row hd) h2 h14 d hd ?_
  rw [h, String.toList_append, List.take_append_of_le_length (by decide)]
  decide

/-- The names of the table are distinct. -/
theorem name_inj {k m : Nat} {d e : Descriptor} (hd : descriptorTable[k]? = some d) (he : descriptorTable[m]? = some e)
    (h : d.name = e.name) : k = m := by
  have hnodup : (descriptorTable.map Descriptor.name).Nodup := by decide
  refine (List.getElem?_inj (by rw [List.length_map]; exact lt_of_row hd) hnodup).mp ?_
  rw [List.getElem?_map, List.getElem?_map, hd, he, Option.map_some, Option.map_some, h]

/-- A number is not written with a letter. -/
theorem repr_append_ne_temperature (n : Nat) (s t : String) : Nat.repr n ++ s ≠ "temperature_" ++ t := by
  intro h
  have hlist := congrArg String.toList h
  rw [String.toList_append, String.toList_append, Nat.repr_eq_ofList_toDigits] at hlist
  rw [String.toList_ofList] at hlist
  obtain ⟨c, cs, hdigits⟩ := List.exists_cons_of_ne_nil (Nat.toDigits_ne_nil (n := n) (b := 10))
  have hdigit : c.isDigit := Nat.isDigit_of_mem_toDigits (by omega) (by omega) (hdigits ▸ List.mem_cons_self)
  rw [hdigits, show "temperature_".toList = 't' :: "emperature_".toList by decide] at hlist
  obtain rfl : c = 't' := List.head_eq_of_cons_eq hlist
  exact absurd hdigit (by decide)

/-! ## Distinct fields have distinct names -/

/-- The name of a field begins as the arrays' names do exactly if the field is in one of the arrays. -/
theorem array_name {k i : Nat} {d : Descriptor} (hd : descriptorTable[k]? = some d) (harray : k = 2 ∨ k = 14) :
    ∃ s, entryName d.fid (BitVec.ofNat 8 i) = "cell_" ++ s := by
  rcases harray with rfl | rfl <;> obtain rfl := Option.some.inj hd
  · exact ⟨_, entryName_cell _⟩
  · exact ⟨_, entryName_temperature _⟩

/-- The two strings behind one beginning are equal if the whole strings are. -/
theorem append_left_cancel {s t u : String} (h : s ++ t = s ++ u) : t = u := by
  have hlist := congrArg String.toList h
  rw [String.toList_append, String.toList_append] at hlist
  exact String.toList_inj.mp (List.append_cancel_left hlist)

/-- The two strings before one ending are equal if the whole strings are. -/
theorem append_right_cancel {s t u : String} (h : t ++ s = u ++ s) : t = u := by
  have hlist := congrArg String.toList h
  rw [String.toList_append, String.toList_append] at hlist
  exact String.toList_inj.mp (List.append_cancel_right hlist)

/-- A byte holds every element number of an array. -/
theorem elementNumber_inj {i j : Nat} (hi : i < 256) (hj : j < 256)
    (h : Nat.repr (BitVec.ofNat 8 i).toNat = Nat.repr (BitVec.ofNat 8 j).toNat) : i = j := by
  rw [Nat.repr_inj, BitVec.toNat_ofNat, BitVec.toNat_ofNat] at h
  omega

/-- Two fields with one name are one field. -/
theorem field_eq_of_name_eq {n tn k i m j : Nat} {d e : Descriptor} (hn : n < 256) (htn : tn < 256)
    (hd : descriptorTable[k]? = some d) (he : descriptorTable[m]? = some e) (hki : HasElement n tn k i)
    (hmj : HasElement n tn m j) (h : entryName d.fid (BitVec.ofNat 8 i) = entryName e.fid (BitVec.ofNat 8 j)) :
    k = m ∧ i = j := by
  by_cases hk : k = 2 ∨ k = 14 <;> by_cases hm : m = 2 ∨ m = 14
  · rcases hk with rfl | rfl <;> rcases hm with rfl | rfl <;> obtain rfl := Option.some.inj hd <;>
      obtain rfl := Option.some.inj he
    · -- both are cell voltages: equal numbers behind "cell_" and before "_voltage"
      have hnumber := append_left_cancel ((entryName_cell _).symm.trans (h.trans (entryName_cell _)))
      obtain ⟨hi, hin⟩ : 1 ≤ i ∧ i ≤ n := hki
      obtain ⟨hj, hjn⟩ : 1 ≤ j ∧ j ≤ n := hmj
      exact ⟨rfl, elementNumber_inj (by omega) (by omega) (append_right_cancel hnumber)⟩
    · have hnumber := append_left_cancel ((entryName_cell _).symm.trans (h.trans (entryName_temperature _)))
      exact absurd hnumber (repr_append_ne_temperature _ _ _)
    · have hnumber := append_left_cancel ((entryName_temperature _).symm.trans (h.trans (entryName_cell _)))
      exact absurd hnumber.symm (repr_append_ne_temperature _ _ _)
    · -- both are cell temperatures: equal numbers behind "cell_temperature_"
      have hnumber := append_left_cancel ((entryName_temperature _).symm.trans (h.trans (entryName_temperature _)))
      obtain ⟨hi, hin⟩ : 1 ≤ i ∧ i ≤ tn := hki
      obtain ⟨hj, hjn⟩ : 1 ≤ j ∧ j ≤ tn := hmj
      exact ⟨rfl, elementNumber_inj (by omega) (by omega) (append_left_cancel hnumber)⟩
  · obtain ⟨s, hs⟩ := array_name (i := i) hd hk
    rw [not_or] at hm
    rw [hs, entryName_scalar he hm.1 hm.2] at h
    exact absurd h.symm (scalar_name_not_cell he hm.1 hm.2 s)
  · obtain ⟨s, hs⟩ := array_name (i := j) he hm
    rw [not_or] at hk
    rw [hs, entryName_scalar hd hk.1 hk.2] at h
    exact absurd h (scalar_name_not_cell hd hk.1 hk.2 s)
  · rw [not_or] at hk hm
    rw [entryName_scalar hd hk.1 hk.2, entryName_scalar he hm.1 hm.2] at h
    simp only [HasElement, if_neg hk.1, if_neg hk.2, if_neg hm.1, if_neg hm.2] at hki hmj
    exact ⟨name_inj hd he h, by rw [hki, hmj]⟩

/-- Settles O45: two places of a snapshot are two fields' places, so their names differ. -/
theorem snapshotNamesAreDistinct : Obligations.SnapshotNamesAreDistinct := by
  intro p w hw
  have h := layout_of_decodeWalk hw
  -- the name at a place is the name of the field whose place it is
  have name_at : ∀ a, a < 33 + cells p + temps p → ∃ k i d, descriptorTable[k]? = some d ∧
      HasElement (cells p) (temps p) k i ∧ entriesBefore (cells p) (temps p) k i = a ∧
      (w.snap.map fun x => entryName x.fid x.idx)[a]? = some (entryName d.fid (BitVec.ofNat 8 i)) := by
    intro a ha
    obtain ⟨k, i, hk, hfield, rfl⟩ := exists_field_of_place ha
    have hd := List.getElem?_eq_getElem (l := descriptorTable) hk
    refine ⟨k, i, _, hd, hfield, rfl, ?_⟩
    rw [List.getElem?_map, h.entry k i _ hd hfield (.inl hk)]
    rfl
  rw [List.nodup_iff_getElem?_ne_getElem?]
  intro a b hab hb hname
  rw [List.length_map, h.length_end] at hb
  obtain ⟨k, i, d, hd, hki, rfl, ha⟩ := name_at a (by omega)
  obtain ⟨m, j, e, he, hmj, rfl, hb⟩ := name_at b hb
  rw [ha, hb] at hname
  obtain ⟨rfl, rfl⟩ := field_eq_of_name_eq (p.getD 1 0).isLt (p.getD (20 + 2 * cells p) 0).isLt hd he hki hmj
    (Option.some.inj hname)
  omega

end Sys2Proof.Proofs.Names

/-!
PROOFS. `TD.DECODE` (43_extract_pipeline.md R160 to R178) is the walk of R176: over a written payload each pass of the machine
takes the extractor from one position of the walk to the next, and a fault leaves it at the position where the walk stops.
-/

namespace Sys2Proof.Proofs.Decode

open Sys2Proof Sys2Proof.Machine Sys2Proof.Claims Sys2Proof.Proofs.Walk
  Sys2Proof.Proofs.ExtractPipeline

/-! ## The extractor at a position of a walk -/

/-- The extractor of a decode in progress. -/
def extractorAt (fid li : Nat) (w : Walk) : TelemetryExtractor where
  cur := BitVec.ofNat 11 w.cur
  fsq := BitVec.ofNat 6 fid
  li := BitVec.ofNat 8 li
  n := BitVec.ofNat 8 w.n
  tn := BitVec.ofNat 8 w.tn
  snap := w.snap
  snapCnt := BitVec.ofNat 10 w.snap.length
  tdValid := false
  tdErr := false
  tdCause := 0

/-- A state with its extractor at a position of a walk. -/
def standing (fid li : Nat) (w : Walk) (s : State) : State := { s with te := extractorAt fid li w }

/-- The effect of the machine's passes that a walk foretells. -/
def effectOf (fid li : Nat) (s : State) : Except Halt Walk → Effect
  | .ok v => .done (standing fid li v s) .ok
  | .error h => .raised h.fault (standing h.fid h.li h.walk s)

/-- A decode starts at the start of the walk. -/
theorem startDecode_eq (s : State) : startDecode s = standing 0 0 ⟨0, 0, 0, []⟩ s := rfl

/-- The end of a scalar, of an empty array, and of an array's last element. -/
theorem nextDescriptor_standing (fid : Nat) (w : Walk) (s : State) :
    nextDescriptor (standing fid 0 w s) = standing (fid + 1) 0 w s := by
  simp [nextDescriptor, standing, extractorAt, BitVec.ofNat_add]

/-- Within an array the element stays. -/
theorem enterArray_standing {li : Nat} (fid : Nat) (w : Walk) (s : State) (h1 : 1 ≤ li) (h : li < 256) :
    enterArray (standing fid li w s) = standing fid li w s := by
  have hne : (standing fid li w s).te.li ≠ 0 := fun h0 => by
    have := congrArg BitVec.toNat h0
    simp [standing, extractorAt] at this
    omega
  rw [enterArray, if_neg hne]

/-- After an element: the next one, or behind the last the next descriptor. -/
theorem nextElement_standing {count li : Nat} (fid : Nat) (w : Walk) (s : State) (hcount : count < 256) (h : li ≤ count) :
    nextElement (BitVec.ofNat 8 count) (standing fid li w s) =
      if li < count then standing fid (li + 1) w s else standing (fid + 1) 0 w s := by
  have hli : (standing fid li w s).te.li.toNat = li := by
    simp [standing, extractorAt]
    omega
  have hc : (BitVec.ofNat 8 count).toNat = count := by
    simp
    omega
  rw [nextElement, hli, hc]
  split
  · simp [setLi, standing, extractorAt, BitVec.ofNat_add]
  · exact nextDescriptor_standing fid w s

/-! ## One field -/

/-- A written payload byte by byte. -/
theorem memRead_payload {m : Memory} {p : List Byte} {len i : Nat} (hp : memSpan m 0 len = some p) (hi : i < p.length) :
    memRead m i = some (p.getD i 0) := by
  obtain ⟨hlen, hread⟩ := memSpan_eq_some_iff.mp hp
  have h := hread i (by omega)
  rw [Nat.zero_add] at h
  rw [h, List.getD_eq_getElem?_getD, List.getElem?_eq_getElem hi, Option.getD_some]

/-- A written field is fetched as its raw value (R161, R162). -/
theorem fetchRaw_payload {m : Memory} {p : List Byte} {len off : Nat} (hp : memSpan m 0 len = some p) (w : FieldWidth)
    (hfits : off + w.bytes ≤ p.length) : fetchRaw w m off = some (BitVec.ofNat 16 (rawAt p w off)) := by
  cases w with
  | u8 =>
    rw [fetchRaw, memRead_payload hp (by simpa [FieldWidth.bytes] using hfits), Option.map_some, zext16_eq_rawAt]
  | u16 =>
    have h2 : off + 2 ≤ p.length := hfits
    simp only [fetchRaw, memRead_payload hp (show off < p.length by omega),
      memRead_payload hp (show off + 1 < p.length by omega), u16be_eq_rawAt]

/-- The low byte of a 16-bit number. -/
theorem lo8_ofNat (v : Nat) : lo8 (BitVec.ofNat 16 v) = BitVec.ofNat 8 v := by
  apply BitVec.eq_of_toNat_eq
  simp [lo8]

/-- The write back of a field takes the extractor to the walk behind it (R167). -/
theorem writeBack_standing {p : List Byte} {k : Nat} {d : Descriptor} (hd : descriptorTable[k]? = some d)
    (fid li idx : Nat) (w : Walk) (s : State) :
    appendEntry (entryOf d (BitVec.ofNat 8 idx) (BitVec.ofNat 16 (rawAt p d.width w.cur)))
      (latchCount d.latch (BitVec.ofNat 16 (rawAt p d.width w.cur)) (moveCursor d.width (standing fid li w s))) =
    standing fid li (readField p d idx w) s := by
  have hrow := row_ok hd
  have hread : readField p d idx w =
      { cur := w.cur + d.width.bytes
        n := if k = 1 then rawAt p d.width w.cur else w.n
        tn := if k = 13 then rawAt p d.width w.cur else w.tn
        snap := w.snap ++ [entryAt p d idx w.cur] } := by
    simp only [readField, hrow.is_n, hrow.is_tn]
  rw [hrow.latch_eq, hread]
  by_cases h1 : k = 1
  · simp [h1, appendEntry, latchCount, moveCursor, standing, extractorAt, entryAt, BitVec.ofNat_add, lo8_ofNat]
  by_cases h13 : k = 13
  · simp [h13, appendEntry, latchCount, moveCursor, standing, extractorAt, entryAt, BitVec.ofNat_add, lo8_ofNat]
  · simp [h1, h13, appendEntry, latchCount, moveCursor, standing, extractorAt, entryAt, BitVec.ofNat_add]

/-- Every field's place in a snapshot is below the end of `SNAP`. -/
theorem place_lt {p : List Byte} {k i : Nat} (hk : k < 35) (h : HasElement (cells p) (temps p) k i) :
    entriesBefore (cells p) (temps p) k i < 543 := by
  have hn : cells p < 256 := (p.getD 1 0).isLt
  have htn : temps p < 256 := (p.getD (20 + 2 * cells p) 0).isLt
  simp only [HasElement, entriesBefore, scalarPlace] at *
  grind

/-- The stages of one field, over a written payload, at its position of a walk. -/
theorem runStages_standing {s : State} {p : List Byte} {fid li : Nat} {w : Walk} {d : Descriptor}
    (hp : memSpan s.pl.plbuf 0 s.pl.plLen.toNat = some p) (hd : descriptorTable[fid]? = some d) (h : Layout p fid li w)
    (hfield : HasElement (cells p) (temps p) fid li) :
    runStages d (BitVec.ofNat 8 li) (standing fid li w s) = effectOf fid li s (haltField p d li w) := by
  have hlen : p.length = s.pl.plLen.toNat := (memSpan_eq_some_iff.mp hp).1
  have hcur : (standing fid li w s).te.cur.toNat = w.cur := by
    have := h.cur_le
    have := s.pl.plLen.isLt
    simp [standing, extractorAt]
    omega
  have hcount : (standing fid li w s).te.snapCnt.toNat < 543 := by
    have hlt := place_lt (lt_of_row hd) hfield
    rw [← h.length_eq] at hlt
    simp [standing, extractorAt]
    omega
  have hpl : (standing fid li w s).pl = s.pl := rfl
  rcases runStages_cases d (BitVec.ofNat 8 li) (standing fid li w s) with
    ⟨hshort, heff⟩ | ⟨hfits, hnone, -⟩ | ⟨-, hfull, -⟩ | ⟨sr, hfits, -, hfetch, heff⟩
  · rw [hcur, hpl, ← hlen] at hshort
    rw [heff, haltField, if_pos hshort, (row_ok hd).fid_toNat]
    rfl
  · rw [hcur, hpl, ← hlen] at hfits
    rw [hcur, hpl, fetchRaw_payload hp _ hfits] at hnone
    cases hnone
  · omega
  · rw [hcur, hpl, ← hlen] at hfits
    rw [hcur, hpl, fetchRaw_payload hp _ hfits] at hfetch
    rw [heff, ← Option.some.inj hfetch, writeBack_standing hd, haltField, if_neg (by omega)]
    rfl

/-! ## One descriptor -/

/-- Going on from a foretold effect: from the position reached, or not at all. -/
theorem effectOf_andThen (fid li : Nat) (s : State) (r : Except Halt Walk) (f : State → Effect) :
    (effectOf fid li s r).andThen f =
      match r with
      | .ok v => f (standing fid li v s)
      | .error h => .raised h.fault (standing h.fid h.li h.walk s) := by
  cases r <;> rfl

section

variable {s : State} {p : List Byte} (hp : memSpan s.pl.plbuf 0 s.pl.plLen.toNat = some p)
variable {k : Nat} {d : Descriptor} (hd : descriptorTable[k]? = some d)

include hp hd

/-- The one pass of a scalar. -/
theorem descriptorPass_scalar {w : Walk} (hrep : d.rep = .once) (h : Layout p k 0 w) :
    descriptorPass d (standing k 0 w s) = effectOf (k + 1) 0 s (haltField p d 0 w) := by
  obtain ⟨h2, h14⟩ := (row_ok hd).once_iff.mp hrep
  have hstages : runStages d 0 (standing k 0 w s) = effectOf k 0 s (haltField p d 0 w) :=
    runStages_standing hp hd h (hasElement_scalar h2 h14)
  simp only [descriptorPass, hrep]
  rw [hstages, effectOf_andThen]
  cases haltField p d 0 w with
  | ok v => exact congrArg (Effect.done · .ok) (nextDescriptor_standing k v s)
  | error e => rfl

omit hp in
/-- A pass of an array descriptor is a pass over the elements the payload's count byte gives. -/
theorem descriptorPass_array {li i : Nat} {w : Walk} (harray : k = 2 ∨ k = 14) (h : Layout p k i w) :
    descriptorPass d (standing k li w s) = arrayPass d (BitVec.ofNat 8 (elements p k)) (standing k li w s) := by
  rcases harray with rfl | rfl
  · have hn : w.n = elements p 2 := h.n_eq
    simp only [descriptorPass, (row_ok hd).countN_iff.mpr rfl, ← hn]
    rfl
  · have htn : w.tn = elements p 14 := h.tn_eq
    simp only [descriptorPass, (row_ok hd).countTN_iff.mpr rfl, ← htn]
    rfl

omit hp hd in
/-- The number of elements is a byte. -/
theorem elements_lt (p : List Byte) (k : Nat) : elements p k < 256 := by
  unfold elements
  split
  · exact (p.getD 1 0).isLt
  · exact (p.getD (20 + 2 * cells p) 0).isLt

omit hp hd in
/-- A count byte is zero only for an empty array. -/
theorem ofNat_elements_ne_zero (h : 1 ≤ elements p k) : BitVec.ofNat 8 (elements p k) ≠ 0 := fun h0 => by
  have hlt := elements_lt p k
  have := congrArg BitVec.toNat h0
  simp at this
  omega

/-- The pass of one element. -/
theorem descriptorPass_element {li : Nat} {w : Walk} (harray : k = 2 ∨ k = 14) (hli : 1 ≤ li) (hle : li ≤ elements p k)
    (h : Layout p k li w) :
    descriptorPass d (standing k li w s) =
      if li < elements p k then effectOf k (li + 1) s (haltField p d li w)
      else effectOf (k + 1) 0 s (haltField p d li w) := by
  have hcount := elements_lt p k
  have hfield := hasElement_array harray hli hle
  have henter := enterArray_standing k w s hli (by omega)
  have hstages : runStages d (standing k li w s).te.li (standing k li w s) = effectOf k li s (haltField p d li w) :=
    runStages_standing hp hd h hfield
  rw [descriptorPass_array hd harray h, arrayPass, if_neg (ofNat_elements_ne_zero (by omega)), henter, hstages,
    effectOf_andThen]
  cases haltField p d li w with
  | ok v =>
    simp only [nextElement_standing k v s hcount hle]
    split <;> rfl
  | error e => simp [effectOf]

/-- The passes from an element on, to the end of its array. -/
theorem repeatPass_elements (harray : k = 2 ∨ k = 14) (m : Nat) {li : Nat} {w : Walk} (hli : 1 ≤ li)
    (hm : li + (m + 1) = elements p k + 1) (h : Layout p k li w) :
    repeatPass d (m + 1) (standing k li w s) = effectOf (k + 1) 0 s (haltElements p d li (m + 1) w) := by
  induction m generalizing li w with
  | zero =>
    rw [repeatPass, descriptorPass_element hp hd harray hli (by omega) h, if_neg (by omega), effectOf_andThen,
      haltElements]
    cases haltField p d li w <;> rfl
  | succ m ih =>
    rw [repeatPass, descriptorPass_element hp hd harray hli (by omega) h, if_pos (by omega), effectOf_andThen,
      haltElements]
    rcases haltField_cases h hd (hasElement_array harray hli (by omega)) with ⟨hfits, hok⟩ | ⟨herror, -⟩
    · rw [hok]
      exact ih (by omega) (by omega) (h.read_element hd harray hli hfits)
    · rw [herror]
      rfl

/-- The passes of an array, from where the sequencer enters it. -/
theorem repeatPass_array {w : Walk} (harray : k = 2 ∨ k = 14) (h : Layout p k 1 w) :
    repeatPass d (max 1 (elements p k)) (standing k 0 w s) =
      effectOf (k + 1) 0 s (haltElements p d 1 (elements p k) w) := by
  by_cases hzero : elements p k = 0
  · rw [hzero]
    have hpass : descriptorPass d (standing k 0 w s) = .done (nextDescriptor (standing k 0 w s)) .ok := by
      rw [descriptorPass_array hd harray h, hzero]
      rfl
    rw [show max 1 0 = 1 from rfl, repeatPass, hpass, nextDescriptor_standing]
    rfl
  · obtain ⟨m, hm⟩ : ∃ m, elements p k = m + 1 := ⟨elements p k - 1, by omega⟩
    have hfirst : descriptorPass d (standing k 0 w s) = descriptorPass d (standing k 1 w s) := by
      rw [descriptorPass_array hd harray h, descriptorPass_array hd harray h, arrayPass, arrayPass,
        if_neg (ofNat_elements_ne_zero (by omega)), if_neg (ofNat_elements_ne_zero (by omega))]
      rfl
    rw [Nat.max_eq_right (by omega), hm, repeatPass, hfirst, ← repeatPass]
    exact repeatPass_elements hp hd harray m le_rfl (by omega) h

/-- All passes of one descriptor. -/
theorem repeatPass_standing {w : Walk} (h : Layout p k (firstElement k) w) :
    repeatPass d (passes d (standing k 0 w s)) (standing k 0 w s) = effectOf (k + 1) 0 s (haltDescriptor p d w) := by
  have hrow := row_ok hd
  unfold haltDescriptor passes
  cases hrep : d.rep with
  | once =>
    have hscalar := hrow.once_iff.mp hrep
    have hfirst : firstElement k = 0 := if_neg (by omega)
    rw [hfirst] at h
    simp only [repeatPass]
    rw [descriptorPass_scalar hp hd hrep h, effectOf_andThen]
    cases haltField p d 0 w <;> rfl
  | countN =>
    obtain rfl := hrow.countN_iff.mp hrep
    have hn : w.n = elements p 2 := h.n_eq
    have hte : (standing 2 0 w s).te.n.toNat = elements p 2 := by
      rw [← hn]
      exact Nat.mod_eq_of_lt (hn ▸ elements_lt p 2)
    simpa only [hn, hte] using repeatPass_array hp hd (.inl rfl) h
  | countTN =>
    obtain rfl := hrow.countTN_iff.mp hrep
    have htn : w.tn = elements p 14 := h.tn_eq
    have hte : (standing 14 0 w s).te.tn.toNat = elements p 14 := by
      rw [← htn]
      exact Nat.mod_eq_of_lt (htn ▸ elements_lt p 14)
    simpa only [htn, hte] using repeatPass_array hp hd (.inr rfl) h

end

/-! ## The whole table -/

/-- The descriptors from `k` on, to the end of the table. -/
theorem runDescriptors_standing {s : State} {p : List Byte} (hp : memSpan s.pl.plbuf 0 s.pl.plLen.toNat = some p)
    (ds : List Descriptor) {k : Nat} {w : Walk} (hds : descriptorTable.drop k = ds) (hk : k ≤ 35)
    (h : Layout p k (firstElement k) w) :
    runDescriptors ds (standing k 0 w s) = effectOf 35 0 s (haltDescriptors p ds w) := by
  induction ds generalizing k w with
  | nil =>
    obtain rfl : k = 35 := le_antisymm hk (List.drop_eq_nil_iff.mp hds)
    rfl
  | cons d ds ih =>
    have hd : descriptorTable[k]? = some d := by rw [← List.head?_drop, hds]; rfl
    have htail : descriptorTable.drop (k + 1) = ds := by rw [← List.tail_drop, hds]; rfl
    have hone := haltDescriptor_reaches hd h
    rw [runDescriptors, repeatPass_standing hp hd h, effectOf_andThen, haltDescriptors]
    cases hw : haltDescriptor p d w with
    | ok v => rw [hw] at hone; exact ih htail (lt_of_row hd) hone
    | error e => rfl

/-- The extractor after a decode that stopped, with the fault recorded (R178, R254). -/
def stoppedAt (h : Halt) : TelemetryExtractor :=
  { extractorAt h.fid h.li h.walk with tdErr := true, tdCause := 1 }

/-- The effect of `TD.DECODE` over a written payload. -/
theorem tdDecodeEffect_eq {s : State} {p : List Byte} (hp : memSpan s.pl.plbuf 0 s.pl.plLen.toNat = some p) :
    tdDecodeEffect s = (effectOf 35 0 s (haltWalk p)).andThen fun t => .done (setTdValid t) .ok := by
  rw [tdDecodeEffect, startDecode_eq, runDescriptors_standing hp descriptorTable (k := 0) rfl (by omega) (layout_start p)]
  rfl

/-- `TD.DECODE` reports what its effect is. -/
theorem exec_tdDecode (s : State) : exec .tdDecode s = report s (tdDecodeEffect s) := rfl

/-- Where `decode` of the payload returns, `TD.DECODE` completes with it. -/
theorem exec_tdDecode_of_ok {s : State} {p : List Byte} {w : Walk} (hp : memSpan s.pl.plbuf 0 s.pl.plLen.toNat = some p)
    (hw : haltWalk p = .ok w) : exec .tdDecode s = .next (answer .ok { s with te := decoded w }) := by
  rw [exec_tdDecode, tdDecodeEffect_eq hp, hw]
  rfl

/-- Where `decode` of the payload raises, `TD.DECODE` faults at the place where the walk stops. -/
theorem exec_tdDecode_of_error {s : State} {p : List Byte} {h : Halt}
    (hp : memSpan s.pl.plbuf 0 s.pl.plLen.toNat = some p) (hw : haltWalk p = .error h) :
    exec .tdDecode s = .next (answer (.fault h.fault) { s with te := stoppedAt h }) := by
  rw [exec_tdDecode, tdDecodeEffect_eq hp, hw]
  rfl

/-- Settles O41. -/
theorem decodeCompletesAsTheFunction : Obligations.DecodeCompletesAsTheFunction :=
  fun _ _ _ hp hw => exec_tdDecode_of_ok hp (haltWalk_of_ok hw)

/-- Settles O47: the walk the machine follows is a function of the payload. -/
theorem decodeDependsOnThePayloadAlone : Obligations.DecodeDependsOnThePayloadAlone := by
  intro s t p hs ht
  cases hw : haltWalk p with
  | ok w => exact ⟨_, _, exec_tdDecode_of_ok hs hw, exec_tdDecode_of_ok ht hw⟩
  | error h => exact ⟨_, _, exec_tdDecode_of_error hs hw, exec_tdDecode_of_error ht hw⟩

/-! ## Where it faults -/

/-- Settles O43: a completed walk has consumed the bytes of the whole table, and one that stopped was over a payload
with fewer. -/
theorem decodeCompletesIffLongEnough : Obligations.DecodeCompletesIffLongEnough := by
  rintro s p n tn hp hn htn
  obtain rfl : n = cells p := hn
  obtain rfl : tn = temps p := htn
  have hreach := haltWalk_reaches p
  cases hw : haltWalk p with
  | ok w =>
    have h : Layout p 35 0 w := by simpa [hw] using hreach
    have hcur := h.cur_end
    have hle := h.cur_le
    refine ⟨fun _ => ⟨_, exec_tdDecode_of_ok hp hw, rfl, ?_⟩, fun hshort => absurd (by omega) hshort⟩
    have hlen := (memSpan_eq_some_iff.mp hp).1
    have hlt := s.pl.plLen.isLt
    simp only [answer_te, decoded, BitVec.toNat_ofNat]
    omega
  | error h =>
    have hstop : Stopped p h := by simpa [hw] using hreach
    have hlt := hstop.length_lt
    exact ⟨fun hlong => by omega, fun _ => ⟨_, _, _, _, exec_tdDecode_of_error hp hw, rfl, rfl⟩⟩

/-- The position registers of a decode that stopped hold their numbers. -/
theorem stoppedAt_registers {s : State} {p : List Byte} {h : Halt}
    (hp : memSpan s.pl.plbuf 0 s.pl.plLen.toNat = some p) (hstop : Stopped p h) :
    (stoppedAt h).fsq.toNat = h.fid ∧ (stoppedAt h).li.toNat = h.li ∧ (stoppedAt h).cur.toNat = h.walk.cur ∧
    (stoppedAt h).n.toNat = h.walk.n ∧ (stoppedAt h).tn.toNat = h.walk.tn ∧
    (stoppedAt h).snapCnt.toNat = h.walk.snap.length := by
  have hcells : cells p < 256 := (p.getD 1 0).isLt
  have htemps : temps p < 256 := (p.getD (20 + 2 * cells p) 0).isLt
  have hlen := (memSpan_eq_some_iff.mp hp).1
  have hlt := s.pl.plLen.isLt
  have hcur := hstop.layout.cur_le
  obtain ⟨d, hd, -⟩ := hstop.truncated
  have hfid := lt_of_row hd
  have hli : h.li < 256 := by
    have hfield := hstop.field
    unfold HasElement at hfield
    grind
  have hn : h.walk.n < 256 := by rw [hstop.layout.n_eq]; split <;> omega
  have htn : h.walk.tn < 256 := by rw [hstop.layout.tn_eq]; split <;> omega
  have hplace := place_lt hfid hstop.field
  rw [← hstop.layout.length_eq] at hplace
  simp only [stoppedAt, extractorAt, BitVec.toNat_ofNat]
  omega

/-- A decode that stopped keeps what its walk holds where it stops (R178): the counts not latched yet do not matter to
the fields before it. -/
theorem keptBeforeFault_of_stopped {s : State} {p : List Byte} {h : Halt}
    (hp : memSpan s.pl.plbuf 0 s.pl.plLen.toNat = some p) (hstop : Stopped p h) : KeptBeforeFault p (stoppedAt h) := by
  obtain ⟨hfid, hli, hcur, hn, htn, -⟩ := stoppedAt_registers hp hstop
  have hlay := hstop.layout
  have hsnap : (stoppedAt h).snap = h.walk.snap := rfl
  simp only [KeptBeforeFault, hfid, hli, hcur, hn, htn, hsnap]
  refine ⟨?_, ?_, ?_, ?_, fun k d hk hd h2 h14 => ?_, fun i hi hlt => ?_, fun i hi hlt => ?_⟩
  · apply BitVec.eq_of_toNat_eq
    rw [hn, hlay.n_eq]
    split <;> rfl
  · apply BitVec.eq_of_toNat_eq
    rw [htn, hlay.tn_eq, hlay.n_eq]
    split
    · rw [if_pos (by omega)]
      rfl
    · rfl
  · rw [hlay.offset_latched le_rfl, hlay.cur_eq]
  · rw [hlay.place_latched le_rfl, hlay.length_eq]
  · have hentry := hlay.entry k 0 d hd (hasElement_scalar h2 h14) (.inl hk)
    rw [← hlay.place_latched hk.le, entriesBefore, if_neg h2, if_neg h14,
      fieldOffset_scalar hd ((row_ok hd).once_iff.mpr ⟨h2, h14⟩) _ _ 0 1, ← hlay.offset_latched hk.le] at hentry
    exact hentry
  · have hn : 2 < h.fid → h.walk.n = elements p 2 := fun hpast => by rw [hlay.n_eq, if_pos (by omega)]; rfl
    exact hstop.kept_element (k := 2) (.inl rfl) rfl hi (by split at hlt <;> grind)
  · have htn : 14 < h.fid → h.walk.tn = elements p 14 := fun hpast => by rw [hlay.tn_eq, if_pos (by omega)]; rfl
    exact hstop.kept_element (k := 14) (.inr rfl) rfl hi (by split at hlt <;> grind)

/-- Settles O42: the machine stops where the walk does, and no entry of an extractor without `TD_VALID` is read. -/
theorem truncationAbortsTheDecode : Obligations.TruncationAbortsTheDecode := by
  intro s p f hp hf
  obtain ⟨h, hw, rfl⟩ := haltWalk_of_error hf
  have hstop : Stopped p h := by simpa [hw] using haltWalk_reaches p
  obtain ⟨hfid, -, -, -, -, hcount⟩ := stoppedAt_registers hp hstop
  obtain ⟨d, hd, -⟩ := hstop.truncated
  refine ⟨stoppedAt h, exec_tdDecode_of_error hp hw, rfl, rfl, rfl, rfl, hfid ▸ lt_of_row hd, hcount,
    keptBeforeFault_of_stopped hp hstop, fun k t ht => ?_⟩
  exact exec_tdRead_of_not_valid k (by rw [ht]; rfl)

end Sys2Proof.Proofs.Decode

/-!
PROOFS. The field descriptors as instructions (44_telemetry_fields.md R200 to R234, 43_extract_pipeline.md R160 to R174): one
pass of each, in any state with its bytes written, with its bytes missing, and with an empty array; and the ranges of
the values (R168).
-/

namespace Sys2Proof.Proofs.Fields

open Sys2Proof Sys2Proof.Machine Sys2Proof.Claims Sys2Proof.Proofs.Walk Sys2Proof.Proofs.Decode

/-! ## The ranges of `q` (R168) -/

/-- The greatest value a field's width and mask let through. -/
def greatestRaw (w : FieldWidth) (mask : Word) : Nat := if w = .u8 then 255 else mask.toNat

/-- No raw value of its width passes a mask with more: one byte is at most 255, and a mask lets through no more than
itself. -/
theorem masked_le {w : FieldWidth} (mask : Word) {raw : Word} (h : fitsWidth w raw) :
    (raw &&& mask).toNat ≤ greatestRaw w mask := by
  rw [BitVec.toNat_and, greatestRaw]
  split
  case isTrue hw => exact Nat.and_le_left.trans (h hw)
  case isFalse => exact Nat.and_le_right

/-- The kinds of the table: the least value is that of the raw value 0, the greatest that of a raw value of its width
which the mask keeps. -/
theorem ends_of_kind {k : RangeKind} (hk : k ∈ rangeKinds) :
    k.least = -(k.off : Int) ∧ k.greatest = (greatestRaw k.width k.mask : Int) - k.off ∧
    fitsWidth k.width (BitVec.ofNat 16 (greatestRaw k.width k.mask)) ∧
    (BitVec.ofNat 16 (greatestRaw k.width k.mask) &&& k.mask).toNat = greatestRaw k.width k.mask := by
  revert k
  decide

/-- Settles O34: the kinds are those of the table, and each end is the value of the least or the greatest raw value. -/
theorem fieldValueRanges : Obligations.FieldValueRanges := by
  refine ⟨by decide, by decide, fun k hk d _ hdesc => ?_⟩
  obtain ⟨hwidth, hmask, hoff, -⟩ := hdesc
  obtain ⟨hleast, hgreatest, hfits, hkept⟩ := ends_of_kind hk
  have hvalue : ∀ raw, (extract d raw).1 = ((raw &&& k.mask).toNat : Int) - k.off := fun raw => by
    rw [← hmask, ← hoff]
    rfl
  rw [hwidth]
  refine ⟨fun raw hraw => ?_, ⟨0, fun _ => Nat.zero_le _, ?_⟩, ⟨_, hfits, ?_⟩⟩
  · have hle := masked_le k.mask hraw
    rw [hvalue, hleast, hgreatest]
    omega
  · rw [hvalue, hleast]
    simp
  · rw [hvalue, hkept, hgreatest]

/-! ## One field over written bytes -/

/-- The stages of a field whose bytes are there, with a place in `SNAP` left. -/
theorem runStages_of_fetch {d : Descriptor} {s : State} {sr : Word} (idx : BitVec 8)
    (hfits : s.te.cur.toNat + d.width.bytes ≤ s.pl.plLen.toNat)
    (hfetch : fetchRaw d.width s.pl.plbuf s.te.cur.toNat = some sr) (hplace : s.te.snapCnt.toNat < 543) :
    runStages d idx s = .done (appendEntry (entryOf d idx sr) (latchCount d.latch sr (moveCursor d.width s))) .ok := by
  rcases runStages_cases d idx s with ⟨hshort, -⟩ | ⟨-, hnone, -⟩ | ⟨-, hfull, -⟩ | ⟨sr', -, -, hsr, heff⟩
  · omega
  · simp [hfetch] at hnone
  · omega
  · rw [heff, ← Option.some.inj (hfetch.symm.trans hsr)]

/-- The stages of a field whose bytes are not all there. -/
theorem runStages_of_short {d : Descriptor} {s : State} (idx : BitVec 8)
    (hshort : s.pl.plLen.toNat < s.te.cur.toNat + d.width.bytes) :
    runStages d idx s = .raised (.truncatedPayload s.te.fsq s.te.li s.te.cur) s := if_pos hshort

/-- The entry of a one-byte field: either mask keeps a byte whole. -/
theorem entryOf_byte {d : Descriptor} (idx : BitVec 8) (b : Byte)
    (hmask : d.mask = Config.maskNone ∨ d.mask = Config.mask15) :
    entryOf d idx (zext16 b) = ⟨d.fid, idx, (b.toNat : Int) - d.off, d.e⟩ := by
  have hb := b.isLt
  rcases hmask with h | h
  · rw [entryOf_maskNone h, zext16_toNat]
  · rw [entryOf_mask15 h, zext16_toNat, Nat.mod_eq_of_lt (by omega)]

/-! ## The scalars without a latch (R161 to R167) -/

/-- An instruction runs one pass of a scalar that latches nothing. -/
structure ScalarRow (i : Instr) (d : Descriptor) : Prop where
  exec_eq : ∀ s, exec i s = report s (descriptorPass d s)
  rep_eq : d.rep = .once
  latch_eq : d.latch = .none

/-- The state after a scalar that latches nothing. -/
theorem exec_scalar {i : Instr} {d : Descriptor} (hrow : ScalarRow i d) {s : State} {sr : Word}
    (hfits : s.te.cur.toNat + d.width.bytes ≤ s.pl.plLen.toNat)
    (hfetch : fetchRaw d.width s.pl.plbuf s.te.cur.toNat = some sr) (hplace : s.te.snapCnt.toNat < 543) :
    exec i s = .next (answer .ok { s with te := { s.te with
      cur := s.te.cur + BitVec.ofNat 11 d.width.bytes, fsq := s.te.fsq + 1, snapCnt := s.te.snapCnt + 1
      snap := s.te.snap ++ [entryOf d 0 sr] } }) := by
  rw [hrow.exec_eq]
  simp only [descriptorPass, hrow.rep_eq, runStages_of_fetch 0 hfits hfetch hplace, hrow.latch_eq]
  rfl

/-- A scalar whose bytes are not all there faults and moves nothing (R163). -/
theorem exec_scalar_of_short {i : Instr} {d : Descriptor} (hexec : ∀ s, exec i s = report s (descriptorPass d s))
    (hrep : d.rep = .once) {s : State} (hshort : s.pl.plLen.toNat < s.te.cur.toNat + d.width.bytes) :
    exec i s = .next (afterTruncated s.te.li s) := by
  rw [hexec]
  simp only [descriptorPass, hrep, runStages_of_short 0 hshort]
  rfl

/-- The fifteen rows of one byte, as the table has them. -/
theorem byteScalars_row {row : Instr × BitVec 6 × Int} (h : row ∈ byteScalars) :
    ∃ d, ScalarRow row.1 d ∧ d.width = .u8 ∧ (d.mask = Config.maskNone ∨ d.mask = Config.mask15) ∧
      d.fid = row.2.1 ∧ (d.off : Int) = row.2.2 ∧ d.e = 0 := by
  simp only [byteScalars, List.mem_cons, List.not_mem_nil, or_false] at h
  rcases h with rfl | rfl | rfl | rfl | rfl | rfl | rfl | rfl | rfl | rfl | rfl | rfl | rfl | rfl | rfl <;>
    exact ⟨_, ⟨fun _ => rfl, rfl, rfl⟩, rfl, by decide, rfl, rfl, rfl⟩

/-- The sixteen rows of two bytes, as the table has them. -/
theorem wordScalars_row {row : Instr × BitVec 6 × Int × BitVec 2} (h : row ∈ wordScalars) :
    ∃ d, ScalarRow row.1 d ∧ d.width = .u16 ∧ d.mask = Config.maskNone ∧
      d.fid = row.2.1 ∧ (d.off : Int) = row.2.2.1 ∧ d.e = row.2.2.2 := by
  simp only [wordScalars, List.mem_cons, List.not_mem_nil, or_false] at h
  rcases h with rfl | rfl | rfl | rfl | rfl | rfl | rfl | rfl | rfl | rfl | rfl | rfl | rfl | rfl | rfl | rfl <;>
    exact ⟨_, ⟨fun _ => rfl, rfl, rfl⟩, rfl, rfl, rfl, rfl, rfl⟩

/-- A written byte is fetched as it is. -/
theorem fetchRaw_byte {m : Memory} {i : Nat} {b : Byte} (h : memRead m i = some b) :
    fetchRaw .u8 m i = some (zext16 b) := by rw [fetchRaw, h, Option.map_some]

/-- Two written bytes are fetched as the big-endian pair. -/
theorem fetchRaw_pair {m : Memory} {i : Nat} {b0 b1 : Byte} (h0 : memRead m i = some b0)
    (h1 : memRead m (i + 1) = some b1) : fetchRaw .u16 m i = some (u16be b0 b1) := by simp only [fetchRaw, h0, h1]

/-- Settles O35: a byte of any row is kept whole by its mask. -/
theorem oneByteScalarFields : Obligations.OneByteScalarFields := by
  intro row hmem s b hfits hb hplace
  obtain ⟨d, hrow, hwidth, hmask, hfid, hoff, he⟩ := byteScalars_row hmem
  rw [exec_scalar hrow (by rw [hwidth]; exact hfits) (by rw [hwidth]; exact fetchRaw_byte hb) hplace, hwidth,
    entryOf_byte 0 b hmask, hfid, hoff, he]
  rfl

/-- Settles O37: the two bytes of any row count whole. -/
theorem twoByteScalarFields : Obligations.TwoByteScalarFields := by
  intro row hmem s b0 b1 hfits h0 h1 hplace
  obtain ⟨d, hrow, hwidth, hmask, hfid, hoff, he⟩ := wordScalars_row hmem
  rw [exec_scalar hrow (by rw [hwidth]; exact hfits) (by rw [hwidth]; exact fetchRaw_pair h0 h1) hplace, hwidth,
    entryOf_maskNone hmask, hfid, hoff, he, u16be_toNat, Nat.cast_add, Nat.cast_mul]
  rfl

/-! ## The two counts (R201, R213) -/

/-- The low byte of a zero-extended byte is the byte. -/
theorem lo8_zext16 (b : Byte) : lo8 (zext16 b) = b := by
  apply BitVec.eq_of_toNat_eq
  simp [lo8]
  omega

/-- Settles O36: the byte is the entry and the latch. -/
theorem countFieldsLatch : Obligations.CountFieldsLatch := by
  intro s b hfits hb hplace
  have stages : ∀ d : Descriptor, d.width = .u8 → runStages d 0 s =
      .done (appendEntry (entryOf d 0 (zext16 b)) (latchCount d.latch (zext16 b) (moveCursor d.width s))) .ok := fun d hd =>
    runStages_of_fetch 0 (by rw [hd]; exact hfits) (by rw [hd]; exact fetchRaw_byte hb) hplace
  have hn : exec .batteriesSeriesNumber s = report s ((runStages batteriesSeriesNumberField 0 s).andThen
    fun t => .done (nextDescriptor t) .ok) := rfl
  have htn : exec .batteriesTemperatureNumber s = report s ((runStages batteriesTemperatureNumberField 0 s).andThen
    fun t => .done (nextDescriptor t) .ok) := rfl
  rw [hn, htn, stages _ rfl, stages _ rfl, entryOf_byte 0 b (.inl rfl), entryOf_byte 0 b (.inl rfl)]
  simp [latchCount, batteriesSeriesNumberField, batteriesTemperatureNumberField, lo8_zext16, nextDescriptor, appendEntry,
    moveCursor, FieldWidth.bytes]

/-! ## The two arrays (R202, R214) -/

/-- The sequencer enters an array at the element it is to read. -/
theorem enterArray_eq (s : State) : enterArray s = setLi (element s) s := by
  unfold enterArray element
  split <;> rfl

/-- After an element: the next one, or behind the last the next descriptor (R173). -/
theorem nextElement_eq_afterElement (count : BitVec 8) (x : Entry) (s : State) :
    nextElement count (appendEntry x (moveCursor .u16 (setLi (element s) s))) = afterElement count x s := by
  have hiff : element s < count ↔ (element s).toNat < count.toNat := BitVec.lt_def
  unfold nextElement afterElement
  by_cases hlt : (element s).toNat < count.toNat
  · rw [if_pos (hiff.mpr hlt), if_pos (hiff.mpr hlt)]
    exact if_pos hlt
  · rw [if_neg (mt hiff.mp hlt), if_neg (mt hiff.mp hlt)]
    exact if_neg hlt

/-- One element of an array without bit 15, over its two bytes. -/
theorem arrayPass_of_pair {d : Descriptor} {count : BitVec 8} {s : State} {b0 b1 : Byte} (hwidth : d.width = .u16)
    (hmask : d.mask = Config.mask15) (hlatch : d.latch = .none) (hcount : count ≠ 0)
    (hfits : s.te.cur.toNat + 2 ≤ s.pl.plLen.toNat) (h0 : memRead s.pl.plbuf s.te.cur.toNat = some b0)
    (h1 : memRead s.pl.plbuf (s.te.cur.toNat + 1) = some b1) (hplace : s.te.snapCnt.toNat < 543) :
    arrayPass d count s = .done (afterElement count
      ⟨d.fid, element s, ((256 * b0.toNat + b1.toNat) % 32768 : Nat) - d.off, d.e⟩ s) .ok := by
  have hstages := runStages_of_fetch (d := d) (s := setLi (element s) s) (element s) (by rw [hwidth]; exact hfits)
    (by rw [hwidth]; exact fetchRaw_pair h0 h1) hplace
  rw [arrayPass, if_neg hcount, enterArray_eq, setLi_li, hstages, hlatch, hwidth, entryOf_mask15 hmask, u16be_toNat,
    andThen_done]
  exact congrArg (Effect.done · .ok) (nextElement_eq_afterElement count _ s)

/-- Settles O38. -/
theorem arrayElementFields : Obligations.ArrayElementFields := by
  intro s b0 b1 hfits h0 h1 hplace
  refine ⟨fun hn => ?_, fun htn => ?_⟩
  · have hexec : exec .cellIVoltage s = report s (arrayPass cellIVoltageField s.te.n s) := rfl
    rw [hexec, arrayPass_of_pair rfl rfl rfl hn hfits h0 h1 hplace, report_done]
    simp [cellIVoltageField]
  · have hexec : exec .cellTemperatureI s = report s (arrayPass cellTemperatureIField s.te.tn s) := rfl
    rw [hexec, arrayPass_of_pair rfl rfl rfl htn hfits h0 h1 hplace, report_done]
    rfl

/-! ## Empty arrays (R174) -/

/-- An array without elements is passed at once. -/
theorem arrayPass_of_empty (d : Descriptor) (s : State) : arrayPass d 0 s = .done (nextDescriptor s) .ok := if_pos rfl

/-- The entry of a scalar that its mask leaves whole, at its place of a completed decode. -/
theorem scalar_entry {p : List Byte} {w : Walk} (h : Layout p 35 0 w) {k : Nat} {d : Descriptor}
    (hd : descriptorTable[k]? = some d) (h2 : k ≠ 2) (h14 : k ≠ 14) (hmask : d.mask = Config.maskNone) :
    w.snap[scalarPlace (cells p) (temps p) k]? =
      some ⟨d.fid, 0, (rawAt p d.width (fieldOffset (cells p) (temps p) k 0) : Int) - d.off, d.e⟩ := by
  have hentry := h.entry k 0 d hd (hasElement_scalar h2 h14) (.inl (lt_of_row hd))
  rw [entriesBefore, if_neg h2, if_neg h14, entryAt, entryOf_maskNone hmask, BitVec.toNat_ofNat, rawAt_mod] at hentry
  exact hentry

/-- Settles O39: the pass of an empty array, and the places behind one in a completed decode. -/
theorem emptyArraysAreSkipped : Obligations.EmptyArraysAreSkipped := by
  refine ⟨fun s => ⟨fun hn => ?_, fun htn => ?_⟩, fun p w hw => ?_⟩
  · have hexec : exec .cellIVoltage s = report s (arrayPass cellIVoltageField s.te.n s) := rfl
    rw [hexec, hn, arrayPass_of_empty]
    rfl
  · have hexec : exec .cellTemperatureI s = report s (arrayPass cellTemperatureIField s.te.tn s) := rfl
    rw [hexec, htn, arrayPass_of_empty]
    rfl
  have h := layout_of_decodeWalk hw
  have hn : w.n = cells p := h.n_eq
  refine ⟨fun hzero => ?_, fun hzero => ?_⟩
  · have hcells : cells p = 0 := congrArg BitVec.toNat hzero
    have hentry := scalar_entry h (k := 3) rfl (by omega) (by omega) rfl
    rw [hcells] at hentry
    simpa [scalarPlace, fieldOffset, rawAt, maxCellNumberField] using hentry
  · rw [hn] at hzero ⊢
    have htemps : temps p = 0 := congrArg BitVec.toNat hzero
    have hcount := scalar_entry h (k := 13) rfl (by omega) (by omega) rfl
    have hnext := scalar_entry h (k := 15) rfl (by omega) (by omega) rfl
    have hplace : scalarPlace (cells p) 0 13 = 12 + cells p := by simp [scalarPlace]; omega
    have hplace' : scalarPlace (cells p) 0 15 = 13 + cells p := by simp [scalarPlace]
    have hoffset : fieldOffset (cells p) 0 13 0 = 20 + 2 * cells p := by simp only [fieldOffset]; omega
    rw [htemps, hplace, hoffset] at hcount
    rw [htemps, hplace'] at hnext
    refine ⟨?_, ?_⟩
    · have hraw : rawAt p .u8 (20 + 2 * cells p) = 0 := htemps
      simpa [batteriesTemperatureNumberField, hraw] using hcount
    · simpa [fieldOffset, rawAt, environmentalTemperatureField, Config.offTemp, Nat.add_right_comm] using hnext

/-! ## Fields that are not all there (R163) -/

/-- An element of an array whose two bytes are not all there faults and moves nothing. -/
theorem arrayPass_of_short {d : Descriptor} {count : BitVec 8} {s : State} (hwidth : d.width = .u16) (hcount : count ≠ 0)
    (hshort : s.pl.plLen.toNat < s.te.cur.toNat + 2) :
    report s (arrayPass d count s) = .next (afterTruncated (element s) s) := by
  have hstages := runStages_of_short (d := d) (s := setLi (element s) s) (element s) (by rw [hwidth]; exact hshort)
  rw [arrayPass, if_neg hcount, enterArray_eq, setLi_li, hstages, andThen_raised, report_raised]
  rfl

/-- Settles O40: the scalars of the two tables, the two counts, and the two arrays. -/
theorem truncatedFieldsFault : Obligations.TruncatedFieldsFault := by
  refine fun s => ⟨fun row hmem hshort => ?_, fun hshort => ⟨?_, ?_⟩, fun row hmem hshort => ?_, fun hshort hn => ?_,
    fun hshort htn => ?_⟩
  · obtain ⟨d, hrow, hwidth, -⟩ := byteScalars_row hmem
    exact exec_scalar_of_short hrow.exec_eq hrow.rep_eq (by rw [hwidth]; exact hshort)
  · exact exec_scalar_of_short (d := batteriesSeriesNumberField) (fun _ => rfl) rfl hshort
  · exact exec_scalar_of_short (d := batteriesTemperatureNumberField) (fun _ => rfl) rfl hshort
  · obtain ⟨d, hrow, hwidth, -⟩ := wordScalars_row hmem
    exact exec_scalar_of_short hrow.exec_eq hrow.rep_eq (by rw [hwidth]; exact hshort)
  · exact arrayPass_of_short (d := cellIVoltageField) rfl hn hshort
  · exact arrayPass_of_short (d := cellTemperatureIField) rfl htn hshort

end Sys2Proof.Proofs.Fields

/-!
PROOFS. The checksum (40_crc.md): its shift register (R109), its algebra (R111), and `CRC.BLOCK` (R108).
-/

namespace Sys2Proof.Proofs.CrcAlgebra

open Sys2Proof Sys2Proof.Machine Sys2Proof.Claims Sys2Proof.Proofs.Crc

/-! ## `crc_bit` bit by bit (R109) -/

/-- A bit of `crc_bit`: the next higher bit, with the bit shifted out fed back where the polynomial has a bit. -/
theorem getLsbD_crcBit (a : Word) (k : Nat) :
    (crcBit a).getLsbD k = (a.getLsbD (k + 1) ^^ (a.getLsbD 0 && (0xA001 : Word).getLsbD k)) := by
  by_cases h : a.getLsbD 0 = true
  · rw [crcBit_of_lsb_set h, BitVec.getLsbD_xor, getLsbD_shiftRight_one, h, Bool.true_and]
  · rw [crcBit_of_lsb_clear h, getLsbD_shiftRight_one, Bool.eq_false_of_not_eq_true h, Bool.false_and, Bool.xor_false]

/-- The polynomial feeds back into bits 15, 13 and 0. -/
theorem getLsbD_crcPoly (k : Nat) (hk : k < 16) :
    (0xA001 : Word).getLsbD k = decide (k = 15 ∨ k = 13 ∨ k = 0) := by
  revert k
  decide

/-- `crc_bit` is the shift register. -/
theorem crcBit_eq_crcShift (a : Word) : crcBit a = crcShift a := by
  apply BitVec.eq_of_getLsbD_eq
  intro k hk
  have htop : a.getLsbD 16 = false := BitVec.getLsbD_of_ge a 16 le_rfl
  rw [getLsbD_crcBit, getLsbD_crcPoly k hk, crcShift, BitVec.getLsbD_ofFnLE]
  grind

/-- Settles O13: each bit of the shift register, and eight shifts for a byte. -/
theorem crcBitIsTheShiftRegister : Obligations.CrcBitIsTheShiftRegister := by
  intro a
  have htop : a.getLsbD 16 = false := BitVec.getLsbD_of_ge a 16 le_rfl
  refine ⟨crcBit_eq_crcShift a, ?_, ?_, ?_, fun k hk h13 h0 => ?_, fun b => ?_⟩
  · rw [getLsbD_crcBit, htop, getLsbD_crcPoly 15 (by omega)]
    simp
  · rw [getLsbD_crcBit, getLsbD_crcPoly 13 (by omega)]
    simp
  · rw [getLsbD_crcBit, getLsbD_crcPoly 0 (by omega)]
    simp
  · rw [getLsbD_crcBit, getLsbD_crcPoly k (by omega)]
    simp [h13, h0, hk.ne]
  · rw [crcByte_eq_iterate, funext crcBit_eq_crcShift]

/-! ## Linearity and bijectivity (R111) -/

/-- `crc_bit` is linear over exclusive or. -/
theorem crcBit_xor (x y : Word) : crcBit (x ^^^ y) = crcBit x ^^^ crcBit y := by
  apply BitVec.eq_of_getLsbD_eq
  intro k _
  simp only [getLsbD_crcBit, BitVec.getLsbD_xor]
  grind

/-- So is any number of iterations. -/
theorem crcSteps_xor (n : Nat) (x y : Word) : crcSteps n (x ^^^ y) = crcSteps n x ^^^ crcSteps n y := by
  induction n generalizing x y with
  | zero => rfl
  | succ n ih => rw [crcSteps, crcBit_xor, ih, crcSteps, crcSteps]

/-- `crc_byte` is linear in accumulator and byte together. -/
theorem crcByte_xor (a1 a2 : Word) (b1 b2 : Byte) :
    crcByte (a1 ^^^ a2) (b1 ^^^ b2) = crcByte a1 b1 ^^^ crcByte a2 b2 := by
  have hzext : zext16 (b1 ^^^ b2) = zext16 b1 ^^^ zext16 b2 := BitVec.setWidth_xor
  rw [crcByte, crcByte, crcByte, ← crcSteps_xor, hzext]
  congr 1
  ac_rfl

/-- `crc_bit` merges no two accumulators: bit 15 of the result tells the bit shifted out, and the others the rest. -/
theorem crcBit_injective : Function.Injective crcBit := by
  intro x y h
  have hbits : ∀ k, (crcBit x).getLsbD k = (crcBit y).getLsbD k := fun k => by rw [h]
  simp only [getLsbD_crcBit] at hbits
  have hzero : x.getLsbD 0 = y.getLsbD 0 := by
    have h15 := hbits 15
    rw [BitVec.getLsbD_of_ge x (15 + 1) le_rfl, BitVec.getLsbD_of_ge y (15 + 1) le_rfl,
      getLsbD_crcPoly 15 (by omega)] at h15
    simpa using h15
  apply BitVec.eq_of_getLsbD_eq
  intro k _
  cases k with
  | zero => exact hzero
  | succ k =>
    have hk := hbits k
    rw [hzero] at hk
    simpa using hk

/-- `crc_byte` with a fixed byte merges no two accumulators. -/
theorem crcByte_injective (b : Byte) : Function.Injective fun a => crcByte a b := by
  intro x y h
  simp only [crcByte_eq_iterate] at h
  exact BitVec.xor_left_inj _ |>.mp (crcBit_injective.iterate 8 h)

/-! ## The residue (R111) -/

/-- Iterations over bits that are all zero only shift. -/
theorem crcSteps_of_low_zero (n : Nat) {v : Word} (h : ∀ k, k < n → v.getLsbD k = false) : crcSteps n v = v >>> n := by
  induction n generalizing v with
  | zero => rw [crcSteps, BitVec.ushiftRight_zero]
  | succ n ih =>
    have hbit : crcBit v = v >>> 1 := crcBit_of_lsb_clear (by rw [h 0 (by omega)]; decide)
    rw [crcSteps, hbit, ih fun k hk => by rw [getLsbD_shiftRight_one]; exact h (k + 1) (by omega),
      ← BitVec.shiftRight_add, Nat.add_comm]

/-- The low byte of the accumulator, taken in, leaves its high byte. -/
theorem crcByte_lo8 (a : Word) : crcByte a (lo8 a) = zext16 (hi8 a) := by
  have hbit : ∀ k, (a ^^^ zext16 (lo8 a)).getLsbD k = (!decide (k < 8) && a.getLsbD k) := fun k => by
    simp only [zext16, lo8, BitVec.getLsbD_xor, BitVec.getLsbD_setWidth, BitVec.getLsbD_extractLsb', Nat.zero_add]
    grind
  rw [crcByte, crcSteps_of_low_zero 8 fun k hk => by rw [hbit]; simp [hk]]
  apply BitVec.eq_of_getLsbD_eq
  intro k hk
  rw [BitVec.getLsbD_ushiftRight, hbit, zext16, hi8, BitVec.getLsbD_setWidth, BitVec.getLsbD_extractLsb']
  grind

/-- An accumulator that is a byte, with that byte taken in, is zero. -/
theorem crcByte_zext16_self (b : Byte) : crcByte (zext16 b) b = 0x0000 := by
  rw [crcByte, BitVec.xor_self]
  decide

/-- The checksum appended low byte first brings the accumulator to zero. -/
theorem crc16_append_checksum (bs : List Byte) : crc16 (bs ++ [lo8 (crc16 bs), hi8 (crc16 bs)]) = 0x0000 := by
  rw [crc16_append, List.foldl_cons, List.foldl_cons, List.foldl_nil, crcByte_lo8, crcByte_zext16_self]

/-- The frame of `READ1` with its checksum appended high byte first. -/
theorem crc16_read1_high_first : crc16 [0x00, 0x05, 0x00, 0x00, 0x01, 0x0C, 0xE5] = 0x1E8E := by
  obtain ⟨-, -, htrace⟩ := checksumFoldsTheBytesInOrder
  have hbody : crc16 [0x00, 0x05, 0x00, 0x00, 0x01] = 0x0CE5 := Option.some.inj (congrArg (·[5]?) htrace)
  have happend := crc16_append [0x00, 0x05, 0x00, 0x00, 0x01] [0x0C, 0xE5]
  have hstep : crcByte 0x0CE5 0x0C = 0x8ECD := by decide
  rw [hbody, List.foldl_cons, hstep] at happend
  exact happend.trans (by decide)

/-- Settles O14: the fold, linearity, bijections of a finite type, and the residue. -/
theorem checksumAlgebra : Obligations.ChecksumAlgebra :=
  ⟨crc16_append, crcBit_xor, crcByte_xor, Finite.injective_iff_bijective.mp crcBit_injective,
    fun b => Finite.injective_iff_bijective.mp (crcByte_injective b), crc16_append_checksum, crc16_read1_high_first⟩

/-! ## `CRC.BLOCK` (R108) -/

/-- A state with `n` more completions in the host's log. -/
def completed (n : Nat) (s : State) : State :=
  { s with host := { s.host with results := s.host.results ++ List.replicate n .ok } }

@[simp] theorem completed_zero (s : State) : completed 0 s = s := by simp [completed]

/-- One completion, then `n` more. -/
theorem completed_answer (n : Nat) (s : State) : completed n (answer .ok s) = completed (n + 1) s := by
  simp [completed, answer, List.replicate_succ]

/-- The bytes of a sequence, one `CRC.BYTE` after the other. -/
theorem runAll_crcBytes (bs : List Byte) (s : State) :
    runAll (bs.map execCrcByte) s = .next (completed bs.length { s with cu := { acc := bs.foldl crcByte s.cu.acc } }) := by
  induction bs generalizing s with
  | nil => simp
  | cons b bs ih =>
    rw [List.map_cons, runAll_cons_of_next (f := execCrcByte b) (exec_crcByte b s), ih, List.length_cons,
      ← completed_answer]
    rfl

/-- The example of R108. -/
theorem crc16_example : crc16 [0x01, 0x05, 0x00, 0x00, 0x01] = 0xCCD8 := by
  have htrace : (List.range 6).map (fun k => crc16 (([0x01, 0x05, 0x00, 0x00, 0x01] : List Byte).take k)) =
      [0xFFFF, 0x807E, 0x23C0, 0x5023, 0xD911, 0xCCD8] := by decide
  exact Option.some.inj (congrArg (·[5]?) htrace)

/-- Settles O12: the start value, the fold over the bytes, and the read. -/
theorem crcBlockReturnsTheChecksum : Obligations.CrcBlockReturnsTheChecksum := by
  refine ⟨fun bs s => ?_, crc16_example⟩
  have hexec : exec (.crcBlock bs) s = runAll (execCrcInit :: (bs.map execCrcByte ++ [execCrcRead])) s := rfl
  rw [hexec, runAll_cons_of_next (f := execCrcInit) (exec_crcInit s), runAll_append_of_next (runAll_crcBytes bs _),
    runAll_cons_of_next (f := execCrcRead) (exec_crcRead _)]
  simp [answer, completed, crc16, Config.crcInit, List.replicate_succ]

end Sys2Proof.Proofs.CrcAlgebra

/-!
PROOFS. Frames and payloads as a whole: the framer's sequence of positions (R132), `TX.READ1` (R129), an outbound frame as
one object (log 11), and the pseudo-operations that load a buffer byte by byte (R131, R156, R186).
-/

namespace Sys2Proof.Proofs.Loading

open Sys2Proof Sys2Proof.Machine Sys2Proof.Claims Sys2Proof.Proofs.Crc Sys2Proof.Proofs.CrcAlgebra
  Sys2Proof.Proofs.TxFramer Sys2Proof.Proofs.RxDeframer Sys2Proof.Proofs.Walk Sys2Proof.Proofs.Decode

/-! ## The framer's positions (R132) -/

/-- The header positions emit the marker and the five header bytes, and take the five into the checksum, whatever the
transient registers held. -/
theorem framerHeader (cmd : Word) (p : List Byte) (addr : Byte) (r : FramerRun) :
    [FramerPos.sof, .addr, .len, .rsv, .cmdH, .cmdL].foldl (framerAt cmd p addr) r =
      { out := r.out ++ 0x7A :: [addr, BitVec.ofNat 8 (5 + p.length), 0x00, hi8 cmd, lo8 cmd]
        txLen := BitVec.ofNat 8 (5 + p.length)
        txAcc := crc16 [addr, BitVec.ofNat 8 (5 + p.length), 0x00, hi8 cmd, lo8 cmd]
        txIdx := 0 } := by
  simp [framerAt, emitBody, crc16, Config.sof, Config.hdr, Config.nRsv]

/-- `n` payload positions emit the next `n` payload bytes and take them into the checksum. -/
theorem framerPayload (cmd : Word) (p : List Byte) (addr : Byte) (n : Nat) (r : FramerRun) (h : r.txIdx + n ≤ p.length) :
    (List.replicate n FramerPos.pay).foldl (framerAt cmd p addr) r =
      { r with
        out := r.out ++ (p.drop r.txIdx).take n
        txAcc := ((p.drop r.txIdx).take n).foldl crcByte r.txAcc
        txIdx := r.txIdx + n } := by
  induction n generalizing r with
  | zero => simp
  | succ n ih =>
    have hlt : r.txIdx < p.length := by omega
    have htake : (p.drop r.txIdx).take (n + 1) = p[r.txIdx] :: (p.drop (r.txIdx + 1)).take n := by
      rw [List.drop_eq_getElem_cons hlt, List.take_succ_cons]
    rw [List.replicate_succ, List.foldl_cons, ih _ (by simp [framerAt, emitBody]; omega), htake]
    simp [framerAt, emitBody, hlt, Nat.add_comm 1, Nat.add_assoc]

/-- Settles O21: header, payload, and the checksum the body left in the accumulator. -/
theorem framerSequenceEmitsTheFrame : Obligations.FramerSequenceEmitsTheFrame := by
  intro cmd addr p r _
  have hpositions : framerPositions p.length = [FramerPos.sof, .addr, .len, .rsv, .cmdH, .cmdL] ++
      List.replicate p.length .pay ++ [.crcH, .crcL, .eof] := rfl
  rw [framerSequence, hpositions, List.foldl_append, List.foldl_append, framerHeader,
    framerPayload _ _ _ _ _ (by simp), buildFrame_eq rfl, crc16_append]
  simp [framerAt, emitPlain, Config.eof]

/-! ## `TX.READ1` and `TXF` (R129, log 11) -/

/-- The frame of `READ1`: nine bytes. -/
theorem buildFrame_read1 : buildFrame 0x0001 [] 0x00 = [0x7A, 0x00, 0x05, 0x00, 0x00, 0x01, 0x0C, 0xE5, 0xA7] := by
  obtain ⟨-, -, htrace⟩ := checksumFoldsTheBytesInOrder
  have hcrc : crc16 [0x00, 0x05, 0x00, 0x00, 0x01] = 0x0CE5 := Option.some.inj (congrArg (·[5]?) htrace)
  rw [buildFrame_eq (body := [0x00, 0x05, 0x00, 0x00, 0x01]) (by decide), hcrc]
  decide

/-- Settles O19: an empty payload is written in every state. -/
theorem txRead1EmitsNineBytes : Obligations.TxRead1EmitsNineBytes := by
  refine ⟨by decide, fun s => ⟨exec_txRead1 s, ?_⟩⟩
  rw [exec_txRead1, exec_txBuild_of_written (p := []) 0x0001 0x00 (by decide) rfl, buildFrame_read1]

/-- Settles O22: the two cases of the length. -/
theorem outboundFrameAsInstruction : Obligations.OutboundFrameAsInstruction := by
  intro cmd addr ps s
  have hexec : exec (.txf cmd addr ps) s = report s (sendFrameEffect cmd addr ps s) := rfl
  rw [hexec]
  rcases sendFrameEffect_cases cmd addr ps s with ⟨hle, heff⟩ | ⟨hgt, heff⟩
  · rw [heff, report_done]
    exact ⟨fun _ => rfl, fun hgt => by omega⟩
  · rw [heff, report_raised, takeFault_eq]
    exact ⟨fun hle => by omega, fun _ => rfl⟩

/-! ## A buffer written byte by byte -/

/-- A buffer with bytes written from an index on. -/
def writeFrom : Memory → Nat → List Byte → Memory
  | m, _, [] => m
  | m, i, b :: bs => writeFrom (memWrite m i b) (i + 1) bs

/-- The bytes written are read back, and every other element is as before. -/
theorem memRead_writeFrom (m : Memory) (i : Nat) (bs : List Byte) (j : Nat) :
    memRead (writeFrom m i bs) j = if i ≤ j ∧ j < i + bs.length then bs[j - i]? else memRead m j := by
  induction bs generalizing m i with
  | nil => simp [writeFrom]
  | cons b bs ih =>
    rw [writeFrom, ih, memRead_memWrite]
    rcases Nat.lt_trichotomy j i with hlt | rfl | hgt
    · rw [if_neg (by omega), if_neg (by omega), if_neg (by omega)]
    · rw [if_neg (by omega), if_pos rfl, if_pos (by simp)]
      simp
    · have hindex : j - i = j - (i + 1) + 1 := by omega
      rw [hindex, List.getElem?_cons_succ, if_neg (by omega : ¬ j = i)]
      simp only [List.length_cons]
      grind

/-- Bytes written from index 0 on are the first elements. -/
theorem memRead_writeFrom_zero (m : Memory) (bs : List Byte) (j : Nat) :
    memRead (writeFrom m 0 bs) j = if j < bs.length then bs[j]? else memRead m j := by
  simpa using memRead_writeFrom m 0 bs j

/-- Bytes written from index 0 on are a span. -/
theorem memSpan_writeFrom_zero (m : Memory) (bs : List Byte) : memSpan (writeFrom m 0 bs) 0 bs.length = some bs :=
  memSpan_eq_some_iff.mpr ⟨rfl, fun j hj => by rw [memRead_writeFrom_zero, Nat.zero_add, if_pos hj]⟩

/-! ## `TX.PAYLOAD` and `TX.FRAME` (R131) -/

/-- Loads from an index on, as long as all are indices of `PBUF`. -/
theorem runAll_loadSequence (i : Nat) (ps : List Byte) (s : State) (h : i + ps.length ≤ 250) :
    runAll (loadSequence i ps) s =
      .next (completed ps.length { s with tf := { s.tf with pbuf := writeFrom s.tf.pbuf i ps } }) := by
  induction ps generalizing i s with
  | nil => simp [loadSequence, writeFrom]
  | cons b bs ih =>
    rw [List.length_cons] at h
    have hi : (BitVec.ofNat 16 i).toNat = i := by simp; omega
    have hload := exec_txLoad_of_le b s (hi.trans_le (by omega))
    rw [hi] at hload
    rw [loadSequence, runAll_cons_of_next (f := execTxLoad _ b) hload, ih _ _ (by omega), List.length_cons,
      ← completed_answer]
    rfl

/-- Settles O20: after the loads the first elements of `PBUF` are the payload, and their frame is built. -/
theorem txPayloadAndFrame : Obligations.TxPayloadAndFrame := by
  intro cmd addr ps s hlen
  have hloads := runAll_loadSequence 0 ps s (by omega)
  refine ⟨writeFrom s.tf.pbuf 0 ps, memRead_writeFrom_zero _ ps, ?_, ?_⟩
  · have hexec : exec (.txPayload ps) s = runAll (loadSequence 0 ps) s := if_pos (by omega)
    rw [hexec, hloads]
    rfl
  · have hexec : exec (.txFrame cmd addr ps) s =
        runAll (loadSequence 0 ps ++ [execTxBuild cmd addr (BitVec.ofNat 8 ps.length)]) s := if_pos (by omega)
    have hplen : (BitVec.ofNat 8 ps.length).toNat = ps.length := by simp; omega
    have hbuild := exec_txBuild_of_written (p := ps) (plen := BitVec.ofNat 8 ps.length)
      (s := completed ps.length { s with tf := { s.tf with pbuf := writeFrom s.tf.pbuf 0 ps } }) cmd addr
      (by rw [hplen]; exact hlen) (by rw [hplen]; exact memSpan_writeFrom_zero _ ps)
    rw [hexec, runAll_append_of_next hloads, runAll_cons_of_next (f := execTxBuild cmd addr _) hbuild, runAll_nil]
    simp [answer, completed, List.replicate_succ']

/-! ## `PL.LOAD` and `DECODE` (R156, R186) -/

/-- Writes from an index on, between frames and as long as all are indices of `PLBUF`. -/
theorem runAll_writeSequence (i : Nat) (ps : List Byte) (s : State) (hidle : s.rd.rxs = .idle)
    (h : i + ps.length ≤ 1069) :
    runAll (writeSequence i ps) s =
      .next (completed ps.length { s with pl := { s.pl with plbuf := writeFrom s.pl.plbuf i ps } }) := by
  induction ps generalizing i s with
  | nil => simp [writeSequence, writeFrom]
  | cons b bs ih =>
    rw [List.length_cons] at h
    have hi : (BitVec.ofNat 16 i).toNat = i := by simp; omega
    have hwrite := exec_plWrite_of_le b hidle (hi.trans_le (by omega))
    rw [hi] at hwrite
    rw [writeSequence, runAll_cons_of_next (f := execPlWrite _ b) hwrite,
      ih (i + 1) (answer .ok (setPlbuf i b s)) hidle (by omega), List.length_cons, ← completed_answer]
    rfl

/-- A state with a payload loaded. -/
def loaded (ps : List Byte) (s : State) : State :=
  { s with pl := { plbuf := writeFrom s.pl.plbuf 0 ps, plLen := BitVec.ofNat 11 ps.length } }

/-- A loaded payload is written below `PL_LEN`. -/
theorem memSpan_loaded {ps : List Byte} (s : State) (hlen : ps.length ≤ 1069) :
    (loaded ps s).pl.plLen.toNat = ps.length ∧ memSpan (loaded ps s).pl.plbuf 0 (loaded ps s).pl.plLen.toNat = some ps := by
  have hplLen : (loaded ps s).pl.plLen.toNat = ps.length := by simp [loaded]; omega
  exact ⟨hplLen, by rw [hplLen]; exact memSpan_writeFrom_zero _ ps⟩

/-- The writes, then the length. -/
theorem runAll_plLoadSequence {ps : List Byte} {s : State} (hidle : s.rd.rxs = .idle) (hlen : ps.length ≤ 1069) :
    runAll (plLoadSequence ps) s = .next (completed (ps.length + 1) (loaded ps s)) := by
  have hn : (BitVec.ofNat 16 ps.length).toNat = ps.length := by simp; omega
  have hset := exec_plSetlen_of_written (n := BitVec.ofNat 16 ps.length)
    (s := completed ps.length { s with pl := { s.pl with plbuf := writeFrom s.pl.plbuf 0 ps } }) hidle
    (by rw [hn]; exact hlen) (by rw [hn]; exact (memSpan_writeFrom_zero _ ps) ▸ rfl)
  have hwidth : (BitVec.ofNat 16 ps.length).setWidth 11 = BitVec.ofNat 11 ps.length := by
    apply BitVec.eq_of_toNat_eq
    simp
  rw [plLoadSequence, runAll_append_of_next (runAll_writeSequence 0 ps s hidle (by omega)),
    runAll_cons_of_next (f := execPlSetlen _) hset, runAll_nil, hwidth]
  simp [answer, completed, loaded, setPlLen, List.replicate_succ']

/-- Settles O33. -/
theorem plLoadLoadsThePayload : Obligations.PlLoadLoadsThePayload := by
  intro ps s hidle hlen
  have hexec : exec (.plLoad ps) s = runAll (plLoadSequence ps) s := if_pos (by omega)
  refine ⟨writeFrom s.pl.plbuf 0 ps, memRead_writeFrom_zero _ ps, ?_⟩
  rw [hexec, runAll_plLoadSequence hidle hlen]
  rfl

/-- Settles O49: `TD.DECODE` over the loaded payload. -/
theorem decodePseudoDecodesItsBytes : Obligations.DecodePseudoDecodesItsBytes := by
  intro ps s hidle hlen
  obtain ⟨hplLen, hpayload⟩ := memSpan_loaded s hlen
  have hexec : exec (.decodePayload ps) s = runAll (plLoadSequence ps ++ [execTdDecode]) s := if_pos (by omega)
  rw [hexec, runAll_append_of_next (runAll_plLoadSequence hidle hlen)]
  cases hw : decodeWalk ps with
  | ok w =>
    have hdecode := exec_tdDecode_of_ok (s := completed (ps.length + 1) (loaded ps s)) hpayload (haltWalk_of_ok hw)
    rw [runAll_cons_of_next (f := execTdDecode) hdecode, runAll_nil]
    exact ⟨_, rfl, rfl, rfl, rfl, hplLen, hplLen ▸ hpayload, rfl, by simp [answer, completed, loaded, List.replicate_succ']⟩
  | error f =>
    obtain ⟨h, hhalt, rfl⟩ := haltWalk_of_error hw
    have hdecode := exec_tdDecode_of_error (s := completed (ps.length + 1) (loaded ps s)) hpayload hhalt
    rw [runAll_cons_of_next (f := execTdDecode) hdecode, runAll_nil]
    exact ⟨_, rfl, rfl, rfl, rfl, hplLen, hplLen ▸ hpayload, rfl, rfl, rfl, rfl⟩

end Sys2Proof.Proofs.Loading

/-!
PROOFS. No operation looks at the host's port (logs 1 and 2): its effect is the same whatever words are pending and whatever
results are logged. So a pseudo-operation is the run of its expansion's words (R92).
-/

namespace Sys2Proof.Proofs.HostPort

open Sys2Proof Sys2Proof.Machine Sys2Proof.Claims Sys2Proof.Proofs.CommandWord Sys2Proof.Proofs.TxFramer

/-! ## Changing the host's port alone -/

/-- A state with its host port changed. -/
def onHost (g : HostPort → HostPort) (s : State) : State := { s with host := g s.host }

@[simp] theorem onHost_cu (g : HostPort → HostPort) (s : State) : (onHost g s).cu = s.cu := rfl
@[simp] theorem onHost_tf (g : HostPort → HostPort) (s : State) : (onHost g s).tf = s.tf := rfl
@[simp] theorem onHost_rd (g : HostPort → HostPort) (s : State) : (onHost g s).rd = s.rd := rfl
@[simp] theorem onHost_pl (g : HostPort → HostPort) (s : State) : (onHost g s).pl = s.pl := rfl
@[simp] theorem onHost_te (g : HostPort → HostPort) (s : State) : (onHost g s).te = s.te := rfl
@[simp] theorem onHost_host (g : HostPort → HostPort) (s : State) : (onHost g s).host = g s.host := rfl

/-- An effect with the host port of its state changed. -/
def effectOnHost (g : HostPort → HostPort) : Effect → Effect
  | .done t r => .done (onHost g t) r
  | .raised f t => .raised f (onHost g t)
  | .refused why => .refused why
  | .stopped why => .stopped why

/-- An operation that does not look at the host's port. -/
def HostBlind (f : State → Effect) : Prop := ∀ g s, f (onHost g s) = effectOnHost g (f s)

/-- Operations chained are blind if each is. -/
theorem effectOnHost_andThen {f : State → Effect} (hf : HostBlind f) (g : HostPort → HostPort) (e : Effect) :
    (effectOnHost g e).andThen f = effectOnHost g (e.andThen f) := by
  cases e with
  | done t r => exact hf g t
  | raised => rfl
  | refused => rfl
  | stopped => rfl

/-- A map goes into both branches of a test, which it may have changed to an equivalent one. -/
theorem ite_eq_map_ite {α β : Type} {f : α → β} {c c' : Prop} {a b : α} {a' b' : β} [Decidable c] [Decidable c']
    (hc : c' ↔ c) (ha : c → a' = f a) (hb : ¬c → b' = f b) : (if c' then a' else b') = f (if c then a else b) := by
  by_cases h : c
  · rw [if_pos h, if_pos (hc.mpr h), ha h]
  · rw [if_neg h, if_neg (mt hc.mp h), hb h]

/-- `TX.LOAD` is blind. -/
theorem txLoadEffect_hostBlind (i : BitVec 16) (b : Byte) : HostBlind (txLoadEffect i b) :=
  fun _ _ => ite_eq_map_ite .rfl (fun _ => rfl) fun _ => rfl

/-- `TX.BUILD` is blind. -/
theorem txBuildEffect_hostBlind (cmd : Word) (addr : Byte) (plen : BitVec 8) : HostBlind (txBuildEffect cmd addr plen) := by
  refine fun g s => ite_eq_map_ite .rfl (fun _ => ?_) fun _ => rfl
  simp only [onHost_tf]
  split <;> rfl

/-- An envelope byte is taken in blindly. -/
theorem rxEnvelopeByte_hostBlind (b : Byte) : HostBlind (rxEnvelopeByte b) :=
  fun _ _ => ite_eq_map_ite .rfl (fun _ => ite_eq_map_ite .rfl (fun _ => rfl) fun _ => rfl) fun _ => rfl

/-- A payload byte is stored blindly. -/
theorem rxPayloadByte_hostBlind (b : Byte) : HostBlind (rxPayloadByte b) :=
  fun _ _ => ite_eq_map_ite .rfl (fun _ => rfl) fun _ => rfl

/-- `RX.BYTE` is blind. -/
theorem rxByteEffect_hostBlind (b : Byte) : HostBlind (rxByteEffect b) := by
  intro g s
  simp only [rxByteEffect, onHost_rd]
  split
  · exact rxEnvelopeByte_hostBlind b g (startFrame s)
  · exact rxEnvelopeByte_hostBlind b g s
  · exact rxPayloadByte_hostBlind b g s
  · rfl
  · rfl

/-- `RX.END` is blind. -/
theorem rxEndEffect_hostBlind : HostBlind rxEndEffect := by
  intro g s
  simp only [rxEndEffect, onHost_rd]
  split <;> rfl

/-- `PL.WRITE` is blind. -/
theorem plWriteEffect_hostBlind (i : BitVec 16) (b : Byte) : HostBlind (plWriteEffect i b) :=
  fun _ _ => ite_eq_map_ite .rfl (fun _ => rfl) fun _ => ite_eq_map_ite .rfl (fun _ => rfl) fun _ => rfl

/-- `PL.SETLEN` is blind. -/
theorem plSetlenEffect_hostBlind (n : BitVec 16) : HostBlind (plSetlenEffect n) := by
  refine fun g s => ite_eq_map_ite .rfl (fun _ => rfl) fun _ => ite_eq_map_ite .rfl (fun _ => ?_) fun _ => rfl
  simp only [onHost_pl]
  split <;> rfl

/-- `TD.READ` is blind. -/
theorem tdReadEffect_hostBlind (k : BitVec 16) : HostBlind (tdReadEffect k) := by
  refine fun g s => ite_eq_map_ite .rfl (fun _ => rfl) fun _ => ite_eq_map_ite .rfl (fun _ => rfl) fun _ => ?_
  simp only [onHost_te]
  split <;> rfl

/-- The stages of a field are blind. -/
theorem runStages_hostBlind (d : Descriptor) (idx : BitVec 8) : HostBlind (runStages d idx) := by
  refine fun g s => ite_eq_map_ite .rfl (fun _ => rfl) fun _ => ?_
  simp only [onHost_pl, onHost_te]
  split
  · rfl
  · exact ite_eq_map_ite .rfl (fun _ => by cases d.latch <;> rfl) fun _ => rfl

/-- The sequencer enters an array blindly. -/
theorem enterArray_onHost (g : HostPort → HostPort) (s : State) : enterArray (onHost g s) = onHost g (enterArray s) :=
  ite_eq_map_ite .rfl (fun _ => rfl) fun _ => rfl

/-- The sequencer moves on in an array blindly. -/
theorem nextElement_onHost (count : BitVec 8) (g : HostPort → HostPort) (s : State) :
    nextElement count (onHost g s) = onHost g (nextElement count s) :=
  ite_eq_map_ite .rfl (fun _ => rfl) fun _ => rfl

/-- A pass of an array is blind. -/
theorem arrayPass_hostBlind (d : Descriptor) (count : BitVec 8) : HostBlind (arrayPass d count) := by
  intro g s
  simp only [arrayPass, enterArray_onHost, onHost_te, runStages_hostBlind d _ g]
  split
  · rfl
  · exact effectOnHost_andThen (fun g t => by rw [nextElement_onHost]; rfl) g _

/-- A pass of a descriptor is blind. -/
theorem descriptorPass_hostBlind (d : Descriptor) : HostBlind (descriptorPass d) := by
  intro g s
  unfold descriptorPass
  cases d.rep with
  | once => simp only [runStages_hostBlind d _ g]; exact effectOnHost_andThen (fun _ _ => rfl) g _
  | countN => exact arrayPass_hostBlind d _ g s
  | countTN => exact arrayPass_hostBlind d _ g s

/-- Any number of passes is blind. -/
theorem repeatPass_hostBlind (d : Descriptor) (k : Nat) : HostBlind (repeatPass d k) := by
  induction k with
  | zero => exact fun _ _ => rfl
  | succ k ih =>
    intro g s
    rw [repeatPass, descriptorPass_hostBlind, effectOnHost_andThen ih, repeatPass]

/-- A walk over descriptors is blind. -/
theorem runDescriptors_hostBlind (ds : List Descriptor) : HostBlind (runDescriptors ds) := by
  induction ds with
  | nil => exact fun _ _ => rfl
  | cons d ds ih =>
    intro g s
    have hpasses : passes d (onHost g s) = passes d s := rfl
    rw [runDescriptors, hpasses, repeatPass_hostBlind, effectOnHost_andThen ih, runDescriptors]

/-- `TD.DECODE` is blind. -/
theorem tdDecodeEffect_hostBlind : HostBlind tdDecodeEffect := by
  intro g s
  have hstart : startDecode (onHost g s) = onHost g (startDecode s) := rfl
  rw [tdDecodeEffect, hstart, runDescriptors_hostBlind, effectOnHost_andThen (fun _ _ => rfl), tdDecodeEffect]

/-- Every host operation reports an effect that is blind, but `SYS.RESET`, which keeps the host's port. -/
theorem exec_hostBlind {i : Instr} (h : i.format = .cw) :
    ∃ f : State → Effect, (∀ s, exec i s = report s (f s)) ∧ HostBlind f := by
  cases i with
  | crcInit => exact ⟨fun s => .done (setAcc Config.crcInit s) .ok, fun _ => rfl, fun _ _ => rfl⟩
  | crcByte b => exact ⟨fun s => .done (setAcc (crcByte s.cu.acc b) s) .ok, fun _ => rfl, fun _ _ => rfl⟩
  | crcRead => exact ⟨fun s => .done s (.checksum s.cu.acc), fun _ => rfl, fun _ _ => rfl⟩
  | reserved3 | reserved6 | reserved7 | reservedE => exact ⟨fun _ => .refused .reservedOp, fun _ => rfl, fun _ _ => rfl⟩
  | txLoad i b => exact ⟨_, fun _ => rfl, txLoadEffect_hostBlind i b⟩
  | txBuild cmd addr plen => exact ⟨_, fun _ => rfl, txBuildEffect_hostBlind cmd addr plen⟩
  | rxByte b => exact ⟨_, fun _ => rfl, rxByteEffect_hostBlind b⟩
  | rxEnd => exact ⟨_, fun _ => rfl, rxEndEffect_hostBlind⟩
  | plWrite i b => exact ⟨_, fun _ => rfl, plWriteEffect_hostBlind i b⟩
  | plSetlen n => exact ⟨_, fun _ => rfl, plSetlenEffect_hostBlind n⟩
  | tdDecode => exact ⟨_, fun _ => rfl, tdDecodeEffect_hostBlind⟩
  | tdRead k => exact ⟨_, fun _ => rfl, tdReadEffect_hostBlind k⟩
  | sysReset => exact ⟨fun s => .done (resetBlock s) .ok, fun _ => rfl, fun _ _ => rfl⟩
  | txRead1 => exact ⟨_, fun _ => rfl, txBuildEffect_hostBlind Config.cmdRead1 0 0⟩
  | _ => cases h

/-! ## Stepping through an expansion (R92) -/

/-- Outcomes with their next state changed. -/
def mapNext (g : State → State) : Host.Outcome State Fault Refusal → Host.Outcome State Fault Refusal
  | .next t => .next (g t)
  | .fault why => .fault why
  | .refused why => .refused why

/-- Issued words are put in front of the host's list. -/
theorem issue_eq_onHost (is : List Instr) (s : State) :
    issue is s = onHost (fun h => { h with pending := is.filterMap encodeWord ++ h.pending }) s := rfl

/-- An operation does not look at the words that wait behind it. -/
theorem exec_issue {i : Instr} (h : i.format = .cw) (is : List Instr) (s : State) :
    exec i (issue is s) = mapNext (issue is) (exec i s) := by
  obtain ⟨f, hexec, hblind⟩ := exec_hostBlind h
  rw [hexec, hexec, issue_eq_onHost, hblind]
  cases f s with
  | done t r => rfl
  | raised w t => cases w <;> rfl
  | refused why => rfl
  | stopped why => rfl

/-- The word of an operation runs as the operation; the two rows of operation code 5 run alike (R129). -/
theorem exec_decodeWord_of_encodeWord {i : Instr} {w : CommandWord} (h : i.format = .cw) (hw : encodeWord i = some w)
    (s : State) : exec (decodeWord w) s = exec i s := by
  cases i
  case txBuild cmd addr plen =>
    obtain rfl := Option.some.inj hw
    simp [exec_decodeWord_txBuild]
  case crcInit | crcByte | crcRead | reserved3 | txLoad | reserved6 | reserved7 | rxByte | rxEnd | plWrite
      | plSetlen | tdDecode | tdRead | reservedE | sysReset | txRead1 =>
    rw [decodeWord_of_encodeWord rfl hw]
  all_goals cases h

/-- The next step takes the first issued operation. -/
theorem step_issue {i : Instr} (h : i.format = .cw) (is : List Instr) (s : State) :
    step (issue (i :: is) s) = mapNext (issue is) (exec i s) := by
  obtain ⟨w, hw, -⟩ := encode_of_cw h
  have hpending : (issue (i :: is) s).host.pending = w :: (issue is s).host.pending := by
    simp [issue, hw]
  rw [step_of_pending hpending, exec_decodeWord_of_encodeWord h hw, ← exec_issue h]
  rfl

/-- Going on from an outcome that has a next state. -/
def bindNext {σ φ ρ : Type} (o : Host.Outcome σ φ ρ) (f : σ → Host.Outcome σ φ ρ) : Host.Outcome σ φ ρ :=
  match o with
  | .next t => f t
  | .fault why => .fault why
  | .refused why => .refused why

/-- A run is a step, then the rest of the run. -/
theorem coreRun_succ (M : Host.Core) (k : Nat) (s : M.State) : M.run (k + 1) s = bindNext (M.step s) (M.run k) := by
  rw [Host.Core.run]
  cases M.step s <;> rfl

/-- A run of this machine is a step, then the rest of the run. -/
theorem run_succ (k : Nat) (s : State) : Host.Core.run core (k + 1) s = bindNext (step s) (Host.Core.run core k) :=
  coreRun_succ core k s

/-- A sequence is its first operation, then the rest. -/
theorem runAll_cons (f : State → Host.Outcome State Fault Refusal)
    (fs : List (State → Host.Outcome State Fault Refusal)) (s : State) :
    runAll (f :: fs) s = bindNext (f s) (runAll fs) := by
  rw [runAll]
  cases f s <;> rfl

/-- Issuing operations and stepping through them is running them one after the other. -/
theorem run_issue (is : List Instr) (h : ∀ i ∈ is, i.format = .cw) (s : State) :
    Host.Core.run core is.length (issue is s) = runAll (is.map exec) s := by
  induction is generalizing s with
  | nil => rfl
  | cons i is ih =>
    rw [List.length_cons, run_succ, step_issue (h i (by simp)), List.map_cons, runAll_cons]
    cases exec i s with
    | next t => exact ih (fun j hj => h j (by simp [hj])) t
    | fault why => rfl
    | refused why => rfl

/-! ## The table of R92 -/

/-- The loads of R92, as the model runs them. -/
theorem map_exec_loads (ps : List Byte) : (loads ps).map exec = loadSequence 0 ps := by
  have from_index : ∀ i, ((ps.zipIdx i).map fun (b, i) => Instr.txLoad (BitVec.ofNat 16 i) b).map exec =
      loadSequence i ps := by
    induction ps with
    | nil => exact fun _ => rfl
    | cons b bs ih => intro i; rw [List.zipIdx_cons, List.map_cons, List.map_cons, ih (i + 1)]; rfl
  exact from_index 0

/-- The writes of R92, as the model runs them. -/
theorem map_exec_writes (ps : List Byte) : (writes ps).map exec = writeSequence 0 ps := by
  have from_index : ∀ i, ((ps.zipIdx i).map fun (b, i) => Instr.plWrite (BitVec.ofNat 16 i) b).map exec =
      writeSequence i ps := by
    induction ps with
    | nil => exact fun _ => rfl
    | cons b bs ih => intro i; rw [List.zipIdx_cons, List.map_cons, List.map_cons, ih (i + 1)]; rfl
  exact from_index 0

/-- An expansion of `n` operations, run as the sequence `fs`. -/
theorem run_expansion {is : List Instr} {n : Nat} {fs : List (State → Host.Outcome State Fault Refusal)}
    (hcw : ∀ i ∈ is, i.format = .cw) (hlen : is.length = n) (hfs : is.map exec = fs) (s : State) :
    Host.Core.run core n (issue is s) = runAll fs s := by
  rw [← hlen, ← hfs, run_issue is hcw]

/-- Loads are host operations. -/
theorem loads_cw (ps : List Byte) : ∀ i ∈ loads ps, i.format = .cw := by
  intro i hi
  obtain ⟨x, -, rfl⟩ := List.mem_map.mp hi
  rfl

/-- Writes are host operations. -/
theorem writes_cw (ps : List Byte) : ∀ i ∈ writes ps, i.format = .cw := by
  intro i hi
  obtain ⟨x, -, rfl⟩ := List.mem_map.mp hi
  rfl

/-- Two lists of host operations are one. -/
theorem cw_append {is js : List Instr} (his : ∀ i ∈ is, i.format = .cw) (hjs : ∀ j ∈ js, j.format = .cw) :
    ∀ i ∈ is ++ js, i.format = .cw := fun i hi => (List.mem_append.mp hi).elim (his i) (hjs i)

/-- A sequence of one operation is the operation. -/
theorem bindNext_runAll_nil (o : Host.Outcome State Fault Refusal) : bindNext o (runAll []) = o := by cases o <;> rfl

/-- Settles O6: every expansion is a list of host operations whose meanings are the sequence the pseudo-operation runs. -/
theorem pseudoOperationsAreTheirExpansions : Obligations.PseudoOperationsAreTheirExpansions := by
  intro s cmd addr bs
  have hloads := loads_cw bs
  have hwrites := writes_cw bs
  have hloadsLen : (loads bs).length = bs.length := by simp [loads]
  have hwritesLen : (writes bs).length = bs.length := by simp [writes]
  refine ⟨?_, fun hlen => ?_, fun hlen => ?_, ?_, ?_, fun hlen => ?_, fun hlen => ?_, fun hlen => ?_, fun hlen => ?_,
    fun hlen => ⟨?_, ?_⟩⟩
  · refine run_expansion (fs := execCrcInit :: (bs.map execCrcByte ++ [execCrcRead])) ?_ (by simp) ?_ s
    · simp only [List.mem_cons, List.mem_append, List.mem_map, List.not_mem_nil, or_false]
      rintro i (rfl | ⟨b, -, rfl⟩ | rfl) <;> rfl
    · rw [List.map_cons, List.map_append, List.map_map]
      rfl
  · have hexec : exec (.txPayload bs) s = runAll (loadSequence 0 bs) s := if_pos hlen
    rw [hexec, run_expansion hloads hloadsLen (map_exec_loads bs)]
  · have hexec : exec (.txFrame cmd addr bs) s =
        runAll (loadSequence 0 bs ++ [execTxBuild cmd addr (BitVec.ofNat 8 bs.length)]) s := if_pos hlen
    rw [hexec]
    refine run_expansion (cw_append hloads ?_) (by simp [hloadsLen]) (by rw [List.map_append, map_exec_loads]; rfl) s
    simp [Instr.format]
  · have hcw : ∀ i ∈ [Instr.txBuild 0x0001 0x00 0], i.format = .cw := List.forall_mem_singleton.mpr rfl
    exact (run_expansion hcw rfl rfl s).trans (bindNext_runAll_nil (execTxBuild 0x0001 0x00 0 s))
  · refine run_expansion (fs := bs.map execRxByte ++ [execRxEnd]) ?_ (by simp) ?_ s
    · simp only [List.mem_append, List.mem_map, List.mem_singleton]
      rintro i (⟨b, -, rfl⟩ | rfl) <;> rfl
    · rw [List.map_append, List.map_map]
      rfl
  · have hexec : exec (.plLoad bs) s = runAll (plLoadSequence bs) s := if_pos hlen
    rw [hexec]
    refine run_expansion (cw_append hwrites ?_) (by simp [hwritesLen]) (by rw [List.map_append, map_exec_writes]; rfl) s
    simp [Instr.format]
  · have hexec : exec (.decodePayload bs) s = runAll (plLoadSequence bs ++ [execTdDecode]) s := if_pos hlen
    rw [hexec]
    refine run_expansion (cw_append hwrites ?_) (by simp [hwritesLen]) ?_ s
    · simp [Instr.format]
    · rw [List.map_append, map_exec_writes, plLoadSequence, List.append_assoc]
      rfl
  · exact if_neg (by omega)
  · exact if_neg (by omega)
  · exact if_neg (by omega)
  · exact if_neg (by omega)

end Sys2Proof.Proofs.HostPort

/-!
PROOFS. A notification delivered byte by byte (R153): what the deframer holds after each byte, against the slice of R140; and
the inbound frame as one object (log 11), which delivers the same bytes by the same operations.
-/

namespace Sys2Proof.Proofs.Notification

open Sys2Proof Sys2Proof.Machine Sys2Proof.Claims Sys2Proof.Proofs.RxDeframer Sys2Proof.Proofs.Loading
  Sys2Proof.Proofs.HostPort

/-! ## The deframer in the middle of a notification -/

/-- No end of a notification recorded yet. -/
def StatusClear (rd : ReceiveDeframer) : Prop := rd.rxDone = false ∧ rd.rxErr = false ∧ rd.rxCause = 0

/-- The deframer and the payload buffer after the bytes `f` of a notification, which found `PLBUF` as `m`. -/
inductive Received (m : Memory) (f : List Byte) (rd : ReceiveDeframer) (pl : PayloadBuffer) : Prop
  /-- Inside the envelope; the outer length is latched once its byte came. -/
  | env (state : rd.rxs = .env) (some_byte : 1 ≤ f.length) (inside : f.length ≤ 5)
      (count : rd.rxCnt = BitVec.ofNat 9 f.length) (latch : 2 < f.length → f[2]? = some rd.rxL)
      (clear : StatusClear rd) (empty : pl.plLen = 0) (buffer : pl.plbuf = m)
  /-- Inside the payload. -/
  | pay (state : rd.rxs = .pay) (latch : f[2]? = some rd.rxL) (need : rd.rxNeed.toNat = rd.rxL.toNat - 4)
      (count : f.length = 6 + pl.plLen.toNat) (inside : pl.plLen.toNat < rd.rxL.toNat - 4)
      (clear : StatusClear rd) (buffer : pl.plbuf = writeFrom m 0 (f.drop 6))
  /-- The payload is there; the bytes after it are dropped. -/
  | tail (state : rd.rxs = .tail) (latch : f[2]? = some rd.rxL) (envelope : 6 ≤ f.length) (low : 4 ≤ rd.rxL.toNat)
      (complete : rd.rxL.toNat + 2 ≤ f.length) (len : pl.plLen.toNat = rd.rxL.toNat - 4)
      (clear : StatusClear rd) (buffer : pl.plbuf = writeFrom m 0 ((f.drop 6).take (rd.rxL.toNat - 4)))
  /-- The outer length is below 4; the bytes after the envelope are dropped. -/
  | fault (state : rd.rxs = .fault) (latch : f[2]? = some rd.rxL) (envelope : 6 ≤ f.length) (low : rd.rxL.toNat < 4)
      (not_done : rd.rxDone = false) (err : rd.rxErr = true) (cause : rd.rxCause = 3) (empty : pl.plLen = 0)

/-- The units a notification leaves alone. -/
def SameOutside (s t : State) : Prop := t.cu = s.cu ∧ t.tf = s.tf ∧ t.te = s.te

/-- One byte written after the others. -/
theorem writeFrom_append_singleton (m : Memory) (i : Nat) (bs : List Byte) (b : Byte) :
    writeFrom m i (bs ++ [b]) = memWrite (writeFrom m i bs) (i + bs.length) b := by
  induction bs generalizing m i with
  | nil => rfl
  | cons c bs ih => rw [List.cons_append, writeFrom, ih, writeFrom, List.length_cons, Nat.add_right_comm, Nat.add_assoc]

/-- A byte already there is not moved by one appended. -/
theorem getElem?_append_of_some {f : List Byte} {k : Nat} {l : Byte} (b : Byte) (h : f[k]? = some l) :
    (f ++ [b])[k]? = some l := by
  rw [List.getElem?_append_left (List.getElem?_eq_some_iff.mp h).1, h]

/-- The first byte of a notification. -/
theorem received_of_idle {s : State} (b : Byte) (h : s.rd.rxs = .idle) :
    ∃ t, exec (.rxByte b) s = .next t ∧ Received s.pl.plbuf [b] t.rd t.pl ∧ SameOutside s t := by
  refine ⟨_, rxByteStartsAFrame.2 b s h, ?_, rfl, rfl, rfl⟩
  exact .env rfl (by simp) (by simp) rfl (by simp) ⟨rfl, rfl, rfl⟩ rfl rfl

/-- A byte inside the envelope: the sixth ends it by the outer length. -/
theorem received_of_env {m : Memory} {f : List Byte} {s : State} (b : Byte) (state : s.rd.rxs = .env)
    (some_byte : 1 ≤ f.length) (inside : f.length ≤ 5) (count : s.rd.rxCnt = BitVec.ofNat 9 f.length)
    (latch : 2 < f.length → f[2]? = some s.rd.rxL) (clear : StatusClear s.rd) (empty : s.pl.plLen = 0)
    (buffer : s.pl.plbuf = m) :
    ∃ t, exec (.rxByte b) s = .next t ∧ Received m (f ++ [b]) t.rd t.pl ∧ SameOutside s t := by
  obtain ⟨hinside, hshort, hempty, hpayload⟩ :=
    rxByteTakesTheEnvelope b (if s.rd.rxCnt = 2 then b else s.rd.rxL) s state rfl
  have hcount : s.rd.rxCnt.toNat = f.length := by rw [count, BitVec.toNat_ofNat]; omega
  have hlength : (f ++ [b]).length = f.length + 1 := by simp
  have hlatch : 2 < f.length + 1 → (f ++ [b])[2]? = some (if s.rd.rxCnt = 2 then b else s.rd.rxL) := by
    intro hlt
    by_cases htwo : s.rd.rxCnt = 2
    · have hlen : f.length = 2 := by rw [← hcount, htwo]; rfl
      rw [if_pos htwo, List.getElem?_append_right hlen.le, hlen]
      rfl
    · have hne : f.length ≠ 2 := fun hlen => htwo (BitVec.eq_of_toNat_eq (by rw [hcount, hlen]; rfl))
      rw [if_neg htwo, getElem?_append_of_some b (latch (by omega))]
  generalize (if s.rd.rxCnt = 2 then b else s.rd.rxL) = l at *
  by_cases hlt : f.length < 5
  · refine ⟨_, hinside fun hsix => ?_, ?_, rfl, rfl, rfl⟩
    · have : (s.rd.rxCnt + 1).toNat = 6 := by rw [hsix]; rfl
      bv_omega
    · refine .env state (by omega) (by omega) ?_ (hlength ▸ hlatch) clear empty buffer
      simp only [answer, hlength, count, BitVec.ofNat_add]
      rfl
  · have hfive : f.length = 5 := by omega
    have hcnt : s.rd.rxCnt = 5 := by rw [count, hfive]; rfl
    have hl := hlatch (by omega)
    have hdrop : (f ++ [b]).drop 6 = [] := List.drop_eq_nil_of_le (by omega)
    rcases Nat.lt_trichotomy l.toNat 4 with hlow | hfour | hgt
    · exact ⟨_, hshort hcnt hlow, .fault rfl hl (by omega) hlow clear.1 rfl rfl empty, rfl, rfl, rfl⟩
    · have hl4 : l = 4 := BitVec.eq_of_toNat_eq hfour
      refine ⟨_, hempty hcnt hl4, ?_, rfl, rfl, rfl⟩
      refine .tail rfl hl (by omega) hfour.ge (by simp only [answer]; omega) ?_ clear ?_
      · simp [answer, empty, hl4]
      · simp [answer, hdrop, writeFrom, buffer]
    · refine ⟨_, hpayload hcnt hgt, ?_, rfl, rfl, rfl⟩
      refine .pay rfl hl ?_ ?_ ?_ clear ?_
      · simp only [answer]; bv_omega
      · simp [answer, empty, hfive]
      · simp only [answer, empty]; simpa using hgt
      · simp [answer, hdrop, writeFrom, buffer]

/-- A byte inside the payload: the announced number of them completes it. -/
theorem received_of_pay {m : Memory} {f : List Byte} {s : State} (b : Byte) (state : s.rd.rxs = .pay)
    (latch : f[2]? = some s.rd.rxL) (need : s.rd.rxNeed.toNat = s.rd.rxL.toNat - 4)
    (count : f.length = 6 + s.pl.plLen.toNat) (inside : s.pl.plLen.toNat < s.rd.rxL.toNat - 4)
    (clear : StatusClear s.rd) (buffer : s.pl.plbuf = writeFrom m 0 (f.drop 6)) :
    ∃ t, exec (.rxByte b) s = .next t ∧ Received m (f ++ [b]) t.rd t.pl ∧ SameOutside s t := by
  have hrange : s.rd.rxL.toNat < 256 := s.rd.rxL.isLt
  have hlt : s.pl.plLen.toNat < 1069 := by omega
  have hlatch := getElem?_append_of_some b latch
  have hnext : (s.pl.plLen + 1).toNat = s.pl.plLen.toNat + 1 := by bv_omega
  have hdropped : (f.drop 6).length = s.pl.plLen.toNat := by rw [List.length_drop]; omega
  have hdrop : (f ++ [b]).drop 6 = f.drop 6 ++ [b] := List.drop_append_of_le_length (by omega)
  have hbuffer : memWrite s.pl.plbuf s.pl.plLen.toNat b = writeFrom m 0 ((f ++ [b]).drop 6) := by
    rw [hdrop, writeFrom_append_singleton, buffer, hdropped, Nat.zero_add]
  have hexec := exec_rxByte_of_pay b state hlt
  rw [storePayload_eq b state hlt] at hexec
  refine ⟨_, hexec, ?_, rfl, rfl, rfl⟩
  by_cases hlast : s.pl.plLen.toNat + 1 = s.rd.rxNeed.toNat
  · refine .tail (if_pos hlast) hlatch ?_ ?_ ?_ ?_ clear ?_
    · simp only [List.length_append]; omega
    · simp only [answer]; omega
    · simp only [answer, List.length_append, List.length_singleton]; omega
    · simp only [answer, hnext]; omega
    · have htake : (f ++ [b]).drop 6 = ((f ++ [b]).drop 6).take (s.rd.rxL.toNat - 4) := by
        rw [List.take_of_length_le (by rw [hdrop, List.length_append, hdropped, List.length_singleton]; omega)]
      exact htake ▸ hbuffer
  · refine .pay (if_neg hlast) hlatch need ?_ ?_ clear hbuffer
    · simp only [answer, hnext, List.length_append, List.length_singleton]; omega
    · simp only [answer, hnext]; omega

/-- A byte after the payload, or after a bad envelope, is dropped. -/
theorem received_of_dropped {m : Memory} {f : List Byte} {s : State} (b : Byte) (h : Received m f s.rd s.pl)
    (state : s.rd.rxs = .tail ∨ s.rd.rxs = .fault) :
    ∃ t, exec (.rxByte b) s = .next t ∧ Received m (f ++ [b]) t.rd t.pl ∧ SameOutside s t := by
  refine ⟨_, exec_rxByte_of_tail_or_fault b state, ?_, rfl, rfl, rfl⟩
  have hlength : (f ++ [b]).length = f.length + 1 := by simp
  cases h with
  | env hs => simp [hs] at state
  | pay hs => simp [hs] at state
  | tail hs latch envelope low complete len clear buffer =>
    refine .tail hs (getElem?_append_of_some b latch) (by omega) low (by simp only [answer]; omega) len clear ?_
    have htake : ((f ++ [b]).drop 6).take (s.rd.rxL.toNat - 4) = (f.drop 6).take (s.rd.rxL.toNat - 4) := by
      rw [List.drop_append_of_le_length envelope, List.take_append_of_le_length (by rw [List.length_drop]; omega)]
    exact htake ▸ buffer
  | fault hs latch envelope low hnotDone err cause empty =>
    exact .fault hs (getElem?_append_of_some b latch) (by omega) low hnotDone err cause empty

/-- Each byte of a notification after the first. -/
theorem received_append {m : Memory} {f : List Byte} {s : State} (b : Byte) (h : Received m f s.rd s.pl) :
    ∃ t, exec (.rxByte b) s = .next t ∧ Received m (f ++ [b]) t.rd t.pl ∧ SameOutside s t := by
  have hreceived := h
  cases h with
  | env state some_byte inside count latch clear empty buffer =>
    exact received_of_env b state some_byte inside count latch clear empty buffer
  | pay state latch need count inside clear buffer => exact received_of_pay b state latch need count inside clear buffer
  | tail state => exact received_of_dropped b hreceived (.inl state)
  | fault state => exact received_of_dropped b hreceived (.inr state)

/-- All the bytes of a notification after the first ones. -/
theorem runAll_rxBytes {m : Memory} {f : List Byte} {s : State} (bs : List Byte) (h : Received m f s.rd s.pl) :
    ∃ t, runAll (bs.map execRxByte) s = .next t ∧ Received m (f ++ bs) t.rd t.pl ∧ SameOutside s t := by
  induction bs generalizing f s with
  | nil => exact ⟨s, rfl, by rwa [List.append_nil], rfl, rfl, rfl⟩
  | cons b bs ih =>
    obtain ⟨u, hu, hreceived, hcu, htf, hte⟩ := received_append b h
    obtain ⟨t, ht, hall, hcu', htf', hte'⟩ := ih hreceived
    refine ⟨t, (runAll_cons_of_next (f := execRxByte b) hu).trans ht, ?_, hcu'.trans hcu, htf'.trans htf, hte'.trans hte⟩
    rwa [List.append_assoc] at hall

/-! ## The end of the notification -/

/-- The deframer and the payload buffer at the end of a notification `f`, as `deframe` says. -/
def Deframed (m : Memory) (f : List Byte) (rd : ReceiveDeframer) (pl : PayloadBuffer) : Prop :=
  match deframe f with
  | some p =>
    rd.rxDone = true ∧ rd.rxErr = false ∧ rd.rxCause = 0 ∧ pl.plLen.toNat = p.length ∧
    ∀ j, memRead pl.plbuf j = if j < p.length then p[j]? else memRead m j
  | none => rd.rxDone = false ∧ rd.rxErr = true ∧ rd.rxCause = 3 ∧ pl.plLen = 0

/-- Where `deframe` gives nothing, `ShortFrame` is recorded. -/
theorem deframed_of_none {m : Memory} {f : List Byte} {rd : ReceiveDeframer} {pl : PayloadBuffer} (h : deframe f = none)
    (hdone : rd.rxDone = false) (herr : rd.rxErr = true) (hcause : rd.rxCause = 3) (hempty : pl.plLen = 0) :
    Deframed m f rd pl := by
  rw [Deframed, h]
  exact ⟨hdone, herr, hcause, hempty⟩

/-- Where `deframe` gives a payload, it is in the buffer. -/
theorem deframed_of_some {m : Memory} {f p : List Byte} {rd : ReceiveDeframer} {pl : PayloadBuffer}
    (h : deframe f = some p) (hdone : rd.rxDone = true) (herr : rd.rxErr = false) (hcause : rd.rxCause = 0)
    (hlen : pl.plLen.toNat = p.length) (hbuffer : pl.plbuf = writeFrom m 0 p) : Deframed m f rd pl := by
  rw [Deframed, h]
  exact ⟨hdone, herr, hcause, hlen, fun j => by rw [hbuffer, memRead_writeFrom_zero]⟩

/-- `RX.END` closes a notification as `deframe` says. -/
theorem rxEnd_of_received {m : Memory} {f : List Byte} {s : State} (h : Received m f s.rd s.pl) :
    ∃ t, exec .rxEnd s = .next t ∧ t.rd.rxs = .idle ∧ Deframed m f t.rd t.pl ∧ SameOutside s t := by
  cases h with
  | env state some_byte inside count latch clear empty buffer =>
    refine ⟨_, exec_rxEnd_of_pay_or_env (.inr state), rfl, ?_, rfl, rfl, rfl⟩
    exact deframed_of_none (deframe_of_length_lt (by omega)) clear.1 rfl rfl rfl
  | pay state latch need count inside clear buffer =>
    refine ⟨_, exec_rxEnd_of_pay_or_env (.inl state), rfl, ?_, rfl, rfl, rfl⟩
    have hnone : deframe f = none := by
      rw [deframe_of_outer_length (by omega) latch, if_neg (by omega), if_pos (by omega)]
    exact deframed_of_none hnone clear.1 rfl rfl rfl
  | tail state latch envelope low complete len clear buffer =>
    refine ⟨_, exec_rxEnd_of_tail state, rfl, ?_, rfl, rfl, rfl⟩
    have hsome : deframe f = some ((f.drop 6).take (s.rd.rxL.toNat - 4)) := by
      rw [deframe_of_outer_length envelope latch, if_neg (by omega), if_neg (by omega)]
    refine deframed_of_some hsome rfl clear.2.1 clear.2.2 (len.trans ?_) buffer
    rw [List.length_take, List.length_drop]
    omega
  | fault state latch envelope low hnotDone err cause empty =>
    refine ⟨_, exec_rxEnd_of_fault state, rfl, ?_, rfl, rfl, rfl⟩
    have hnone : deframe f = none := by rw [deframe_of_outer_length envelope latch, if_pos low]
    exact deframed_of_none hnone hnotDone err cause empty

/-- A notification delivered byte by byte from `R_IDLE`, an empty one included. -/
theorem exec_rxFrame_of_idle {s : State} (f : List Byte) (h : s.rd.rxs = .idle) :
    ∃ t, exec (.rxFrame f) s = .next t ∧ t.rd.rxs = .idle ∧ Deframed s.pl.plbuf f t.rd t.pl ∧ SameOutside s t := by
  cases f with
  | nil =>
    refine ⟨_, (runAll_cons_of_next (f := execRxEnd) (exec_rxEnd_of_idle h)).trans rfl, rfl, ?_, rfl, rfl, rfl⟩
    exact deframed_of_none (deframe_of_length_lt (by decide)) rfl rfl rfl rfl
  | cons b bs =>
    obtain ⟨u, hu, hfirst, hcu, htf, hte⟩ := received_of_idle b h
    obtain ⟨v, hv, hall, hcu', htf', hte'⟩ := runAll_rxBytes bs hfirst
    obtain ⟨t, ht, hidle, hdeframed, hcu'', htf'', hte''⟩ := rxEnd_of_received hall
    have hbytes : runAll ((b :: bs).map execRxByte) s = .next v :=
      (runAll_cons_of_next (f := execRxByte b) hu).trans hv
    have hend : runAll [execRxEnd] v = .next t := (runAll_cons_of_next (f := execRxEnd) ht).trans rfl
    exact ⟨t, (runAll_append_of_next hbytes).trans hend, hidle, hdeframed, hcu''.trans (hcu'.trans hcu),
      htf''.trans (htf'.trans htf), hte''.trans (hte'.trans hte)⟩

/-- Settles O29: the bytes, then the end. -/
theorem rxFrameAgreesWithDeframe : Obligations.RxFrameAgreesWithDeframe := by
  intro f s hidle
  obtain ⟨t, ht, hend, hdeframed, hcu, htf, hte⟩ := exec_rxFrame_of_idle f hidle
  exact ⟨t, ht, hend, hcu, htf, hte, hdeframed⟩

/-! ## The inbound frame as one object (log 11) -/

/-- What `deliver` carries: a fault is there to be answered exactly when the deframer has taken one and drops the rest. -/
def Carries (first : Option BlockFault) (s : State) : Prop :=
  match first with
  | none => s.rd.rxs ≠ .fault
  | some w => s.rd.rxs = .fault ∧ s.rd.rxErr = true ∧ s.rd.rxCause = 3 ∧ ∃ info, w = .shortFrame info

/-- What one byte does to what `deliver` carries. -/
inductive ByteTaken (first : Option BlockFault) (s : State) (e : Effect) : Prop
  /-- The byte is taken and `deliver` carries what it did. -/
  | done (t : State) (eq : e = .done t .ok) (carries : Carries first t) (host : t.host = s.host)
  /-- The byte completes a bad envelope and its fault is carried from here on. -/
  | raised (info : BitVec 9) (t : State) (eq : e = .raised (.shortFrame info) t)
      (carries : Carries (some (.shortFrame info)) (recordFault (.shortFrame info) t)) (host : t.host = s.host)
  /-- The model stops. -/
  | stopped (why : Fault) (eq : e = .stopped why)

/-- A byte of the envelope: only the sixth can find the frame bad. -/
theorem rxEnvelopeByte_taken {s : State} (b : Byte) (h : s.rd.rxs = .env) : ByteTaken none s (rxEnvelopeByte b s) := by
  rcases rxEnvelopeByte_cases b s with ⟨-, heff⟩ | ⟨-, -, heff⟩ | ⟨-, hge, heff⟩
  · exact .done _ heff (by simp [Carries, h]) rfl
  · exact .raised _ _ heff ⟨rfl, rfl, rfl, _, rfl⟩ rfl
  · refine .done _ heff ?_ rfl
    rcases Nat.eq_or_lt_of_le hge with hfour | hgt
    · rw [announcePayload_of_eq (BitVec.eq_of_toNat_eq hfour.symm)]
      simp [Carries]
    · rw [announcePayload_of_gt hgt]
      simp [Carries]

/-- A byte of a notification, in whatever state of the deframer it comes. -/
theorem rxByteEffect_taken {first : Option BlockFault} {s : State} (b : Byte) (h : Carries first s) :
    ByteTaken first s (rxByteEffect b s) := by
  have hnone : s.rd.rxs ≠ .fault → first = none := by
    cases first with
    | none => exact fun _ => rfl
    | some w => exact fun hne => absurd h.1 hne
  rcases rxByteEffect_cases b s with ⟨hs, heff⟩ | ⟨hs, heff⟩ | ⟨hs, hlt, heff⟩ | ⟨-, -, heff⟩ | ⟨-, heff⟩
  · obtain rfl := hnone (by simp [hs])
    exact .done _ heff (by simp [Carries, takeEnvelope_startFrame]) rfl
  · obtain rfl := hnone (by simp [hs])
    exact heff ▸ rxEnvelopeByte_taken b hs
  · obtain rfl := hnone (by simp [hs])
    refine .done _ heff ?_ rfl
    rw [storePayload_eq b hs hlt]
    simp only [Carries]
    split <;> simp
  · exact .stopped _ heff
  · exact .done _ heff h rfl

/-- How the inbound frame as one object ends, where the operations of `RX.FRAME` end in the state `u`. -/
inductive Delivered (s u : State) (e : Effect) : Prop
  /-- The frame is complete. -/
  | done (t : State) (eq : e = .done t .ok) (done : u.rd.rxDone = true) (block : SameBlock u t) (host : t.host = s.host)
  /-- The frame is short. -/
  | raised (info : BitVec 9) (t : State) (eq : e = .raised (.shortFrame info) t) (err : u.rd.rxErr = true)
      (block : SameBlock u (recordFault (.shortFrame info) t)) (host : t.host = s.host)

/-- The end of the notification: the fault carried is answered, or the one `RX.END` raises. -/
theorem deliver_nil {first : Option BlockFault} {s u : State} {g : HostPort → HostPort} (h : Carries first s)
    (hrun : runAll [execRxEnd] (onHost g s) = .next u) : Delivered s u (deliver [] first s) := by
  obtain ⟨v, hv, hu⟩ := runAll_cons_cases hrun
  obtain rfl : v = u := by simpa using hu
  have hnext : report (onHost g s) (effectOnHost g (rxEndEffect s)) = .next v := by
    rw [← rxEndEffect_hostBlind]
    exact hv
  rcases rxEndEffect_cases s with ⟨hs, heff⟩ | ⟨hs, heff⟩ | ⟨hs, heff⟩ | ⟨hs, heff⟩ <;> rw [heff] at hnext <;>
    obtain rfl := Host.Outcome.next.inj hnext
  · cases first with
    | none => exact .done (setRxs .idle (setRxDone s)) (by simp [deliver, heff]) rfl ⟨rfl, rfl, rfl, rfl, rfl⟩ rfl
    | some w => simp [Carries, hs] at h
  · exact .raised _ (setRxs .idle (setPlLen 0 s)) (by simp [deliver, heff]) rfl ⟨rfl, rfl, rfl, rfl, rfl⟩ rfl
  · cases first with
    | none => exact absurd hs h
    | some w =>
      obtain ⟨-, herr, hcause, info, rfl⟩ := h
      refine .raised info (setRxs .idle s) (by simp [deliver, heff]) herr ⟨rfl, rfl, ?_, rfl, rfl⟩ rfl
      simp [recordFault, setRxs, faultCode, herr, hcause]
  · exact .raised _ (setPlLen 0 (clearRxCounts (clearRxStatus s))) (by simp [deliver, heff]) rfl
      ⟨rfl, rfl, rfl, rfl, rfl⟩ rfl

/-- Delivering the bytes and the end as one object, against the operations one by one. -/
theorem deliver_of_runAll (bs : List Byte) {first : Option BlockFault} {s u : State} {g : HostPort → HostPort}
    (h : Carries first s) (hrun : runAll (bs.map execRxByte ++ [execRxEnd]) (onHost g s) = .next u) :
    Delivered s u (deliver bs first s) := by
  induction bs generalizing first s g with
  | nil => exact deliver_nil h hrun
  | cons b bs ih =>
    obtain ⟨v, hv, hrest⟩ := runAll_cons_cases hrun
    have hnext : report (onHost g s) (effectOnHost g (rxByteEffect b s)) = .next v := by
      rw [← rxByteEffect_hostBlind]
      exact hv
    cases rxByteEffect_taken b h with
    | done t heff hcarries hhost =>
      rw [heff] at hnext
      obtain rfl := Host.Outcome.next.inj hnext
      rw [deliver, heff]
      cases ih (g := fun p => { g p with results := (g p).results ++ [.ok] }) hcarries hrest with
      | done w heq hdone hblock hw => exact .done w heq hdone hblock (hw.trans hhost)
      | raised info w heq herr hblock hw => exact .raised info w heq herr hblock (hw.trans hhost)
    | raised info t heff hcarries hhost =>
      rw [heff] at hnext
      obtain rfl := Host.Outcome.next.inj hnext
      rw [deliver, heff]
      cases ih (g := fun p => { g p with results := (g p).results ++ [.fault (.shortFrame info)] }) hcarries hrest with
      | done w heq hdone hblock hw => exact .done w heq hdone hblock (hw.trans hhost)
      | raised info' w heq herr hblock hw => exact .raised info' w heq herr hblock (hw.trans hhost)
    | stopped why heff =>
      rw [heff] at hnext
      cases hnext

/-- Settles O30: the object's end is that of the operations, and their status says which end of `deframe` it is. -/
theorem inboundFrameAsInstruction : Obligations.InboundFrameAsInstruction := by
  intro f s hidle
  obtain ⟨u, hu, -, hdeframed, -⟩ := exec_rxFrame_of_idle f hidle
  have hexec : exec (.rxf f) s = report s (deliver f none s) := rfl
  have hrun : runAll (f.map execRxByte ++ [execRxEnd]) (onHost id s) = .next u := hu
  have hcarries : Carries none s := by simp [Carries, hidle]
  rw [hexec]
  unfold Deframed at hdeframed
  cases deliver_of_runAll f hcarries hrun with
  | done t heq hdone hblock hhost =>
    refine ⟨answer .ok t, u, .ok, by rw [heq, report_done], hu, hblock, by rw [← hhost]; rfl, ?_⟩
    cases hd : deframe f with
    | some p => rfl
    | none =>
      rw [hd] at hdeframed
      simp [hdone] at hdeframed
  | raised info t heq herr hblock hhost =>
    refine ⟨takeFault (.shortFrame info) t, u, .fault (.shortFrame info), by rw [heq, report_raised], hu, hblock, ?_, ?_⟩
    · rw [takeFault_eq, ← hhost]
      rfl
    · cases hd : deframe f with
      | some p =>
        rw [hd] at hdeframed
        simp [herr] at hdeframed
      | none => exact ⟨info, rfl⟩

end Sys2Proof.Proofs.Notification

/-!
PROOFS. The frame of every instruction (10_state.md sections 2 to 5, 20_memory.md section 1): the units it may touch, the
emitted bytes it keeps, and the one result it gives.
-/

namespace Sys2Proof.Proofs.Frames

open Sys2Proof Sys2Proof.Machine Sys2Proof.Claims Sys2Proof.Proofs.Exceptions Sys2Proof.Proofs.HostPort

/-! ## The units an instruction may touch -/

/-- The units of the block. -/
inductive BlockUnit where
  | checksum
  | framer
  | deframer
  | payload
  | extractor

open BlockUnit

/-- The units outside a list are as they were, and no emitted byte is taken back. -/
structure Within (us : List BlockUnit) (s t : State) : Prop where
  cu : checksum ∉ us → t.cu = s.cu
  tf : framer ∉ us → t.tf = s.tf
  rd : deframer ∉ us → t.rd = s.rd
  pl : payload ∉ us → t.pl = s.pl
  te : extractor ∉ us → t.te = s.te
  txout : s.tf.txout <+: t.tf.txout

/-- Nothing changed is within any units. -/
theorem Within.refl (us : List BlockUnit) (s : State) : Within us s s :=
  ⟨fun _ => rfl, fun _ => rfl, fun _ => rfl, fun _ => rfl, fun _ => rfl, List.prefix_rfl⟩

/-- One change after another. -/
theorem Within.trans {us : List BlockUnit} {s t u : State} (h : Within us s t) (h' : Within us t u) : Within us s u where
  cu hu := (h'.cu hu).trans (h.cu hu)
  tf hu := (h'.tf hu).trans (h.tf hu)
  rd hu := (h'.rd hu).trans (h.rd hu)
  pl hu := (h'.pl hu).trans (h.pl hu)
  te hu := (h'.te hu).trans (h.te hu)
  txout := h.txout.trans h'.txout

/-- What is within some units is within more. -/
theorem Within.mono {us vs : List BlockUnit} {s t : State} (h : Within us s t) (hsub : us ⊆ vs) : Within vs s t where
  cu hu := h.cu (mt (@hsub _) hu)
  tf hu := h.tf (mt (@hsub _) hu)
  rd hu := h.rd (mt (@hsub _) hu)
  pl hu := h.pl (mt (@hsub _) hu)
  te hu := h.te (mt (@hsub _) hu)
  txout := h.txout

/-- The host's port is of no unit. -/
theorem Within.answer {us : List BlockUnit} {s t : State} (h : Within us s t) (r : Result) :
    Within us s (Machine.answer r t) :=
  ⟨h.cu, h.tf, h.rd, h.pl, h.te, h.txout⟩

/-- A change of the checksum unit alone. -/
theorem within_checksum {s t : State} (htf : t.tf = s.tf) (hrd : t.rd = s.rd) (hpl : t.pl = s.pl) (hte : t.te = s.te) :
    Within [checksum] s t :=
  ⟨fun h => absurd (by simp) h, fun _ => htf, fun _ => hrd, fun _ => hpl, fun _ => hte, htf ▸ List.prefix_rfl⟩

/-- A change of the framer alone that takes no byte back. -/
theorem within_framer {s t : State} (hcu : t.cu = s.cu) (hrd : t.rd = s.rd) (hpl : t.pl = s.pl) (hte : t.te = s.te)
    (htxout : s.tf.txout <+: t.tf.txout) : Within [framer] s t :=
  ⟨fun _ => hcu, fun h => absurd (by simp) h, fun _ => hrd, fun _ => hpl, fun _ => hte, htxout⟩

/-- A change of the deframer and the payload buffer. -/
theorem within_deframer {s t : State} (hcu : t.cu = s.cu) (htf : t.tf = s.tf) (hte : t.te = s.te) :
    Within [deframer, payload] s t :=
  ⟨fun _ => hcu, fun _ => htf, fun h => absurd (by simp) h, fun h => absurd (by simp) h, fun _ => hte,
    htf ▸ List.prefix_rfl⟩

/-- A change of the payload buffer alone. -/
theorem within_payload {s t : State} (hcu : t.cu = s.cu) (htf : t.tf = s.tf) (hrd : t.rd = s.rd) (hte : t.te = s.te) :
    Within [payload] s t :=
  ⟨fun _ => hcu, fun _ => htf, fun _ => hrd, fun h => absurd (by simp) h, fun _ => hte, htf ▸ List.prefix_rfl⟩

/-- A change of the extractor alone. -/
theorem within_extractor {s t : State} (hcu : t.cu = s.cu) (htf : t.tf = s.tf) (hrd : t.rd = s.rd) (hpl : t.pl = s.pl) :
    Within [extractor] s t :=
  ⟨fun _ => hcu, fun _ => htf, fun _ => hrd, fun _ => hpl, fun h => absurd (by simp) h, htf ▸ List.prefix_rfl⟩

/-! ## The units an effect touches -/

/-- The state an effect leaves, a fault recorded, is within some units of the state before. -/
def Leaves (us : List BlockUnit) (s : State) : Effect → Prop
  | .done t _ => Within us s t
  | .raised w t => Within us s (recordFault w t)
  | .refused _ => True
  | .stopped _ => True

/-- What an effect leaves is what its report leaves. -/
theorem within_of_report {us : List BlockUnit} {s t : State} {e : Effect} (h : Leaves us s e)
    (ht : report s e = .next t) : Within us s t := by
  rcases report_cases ht with ⟨u, r, rfl, rfl⟩ | ⟨w, u, rfl, rfl⟩ | ⟨why, rfl, rfl⟩
  · exact Within.answer h r
  · rw [takeFault_eq]
    exact Within.answer h _
  · exact (Within.refl us s).answer _

/-- An effect after a change. -/
theorem Leaves.after {us : List BlockUnit} {s t : State} {e : Effect} (h : Leaves us t e) (hst : Within us s t) :
    Leaves us s e := by
  cases e with
  | done => exact hst.trans h
  | raised => exact hst.trans h
  | refused => trivial
  | stopped => trivial

/-- Chaining. -/
theorem Leaves.andThen {us : List BlockUnit} {s : State} {e : Effect} {f : State → Effect} (h : Leaves us s e)
    (hf : ∀ t, Leaves us t (f t)) : Leaves us s (e.andThen f) := by
  cases e with
  | done t r => exact (hf t).after h
  | raised => exact h
  | refused => trivial
  | stopped => trivial

/-- `TX.LOAD` touches the framer. -/
theorem txLoadEffect_leaves (i : BitVec 16) (b : Byte) (s : State) : Leaves [framer] s (txLoadEffect i b s) := by
  rcases txLoadEffect_cases i b s with ⟨-, heff⟩ | ⟨-, heff⟩ <;> rw [heff]
  · exact within_framer rfl rfl rfl rfl List.prefix_rfl
  · trivial

/-- `TX.BUILD` touches the framer. -/
theorem txBuildEffect_leaves (cmd : Word) (addr : Byte) (plen : BitVec 8) (s : State) :
    Leaves [framer] s (txBuildEffect cmd addr plen s) := by
  rcases txBuildEffect_cases cmd addr plen s with ⟨-, heff⟩ | ⟨-, -, heff⟩ | ⟨p, -, -, heff⟩ <;> rw [heff]
  · exact within_framer rfl rfl rfl rfl List.prefix_rfl
  · trivial
  · exact within_framer rfl rfl rfl rfl (List.prefix_append _ _)

/-- An outbound frame as one object touches the framer. -/
theorem sendFrameEffect_leaves (cmd : Word) (addr : Byte) (ps : List Byte) (s : State) :
    Leaves [framer] s (sendFrameEffect cmd addr ps s) := by
  rcases sendFrameEffect_cases cmd addr ps s with ⟨-, heff⟩ | ⟨-, heff⟩ <;> rw [heff]
  · exact within_framer rfl rfl rfl rfl (List.prefix_append _ _)
  · exact within_framer rfl rfl rfl rfl List.prefix_rfl

/-- An envelope byte touches the deframer and the payload buffer. -/
theorem rxEnvelopeByte_leaves (b : Byte) (s : State) : Leaves [deframer, payload] s (rxEnvelopeByte b s) := by
  rcases rxEnvelopeByte_cases b s with ⟨-, heff⟩ | ⟨-, -, heff⟩ | ⟨-, -, heff⟩ <;> rw [heff] <;>
    exact within_deframer rfl rfl rfl

/-- `RX.BYTE` touches the deframer and the payload buffer. -/
theorem rxByteEffect_leaves (b : Byte) (s : State) : Leaves [deframer, payload] s (rxByteEffect b s) := by
  rcases rxByteEffect_cases b s with ⟨-, heff⟩ | ⟨-, heff⟩ | ⟨-, -, heff⟩ | ⟨-, -, heff⟩ | ⟨-, heff⟩ <;> rw [heff]
  · exact within_deframer rfl rfl rfl
  · exact rxEnvelopeByte_leaves b s
  · exact within_deframer rfl rfl rfl
  · trivial
  · exact Within.refl _ s

/-- `RX.END` touches the deframer and the payload buffer. -/
theorem rxEndEffect_leaves (s : State) : Leaves [deframer, payload] s (rxEndEffect s) := by
  rcases rxEndEffect_cases s with ⟨-, heff⟩ | ⟨-, heff⟩ | ⟨-, heff⟩ | ⟨-, heff⟩ <;> rw [heff] <;>
    exact within_deframer rfl rfl rfl

/-- The only fault of `RX.BYTE` is `ShortFrame`. -/
theorem rxByteEffect_raised {b : Byte} {s t : State} {w : BlockFault} (h : rxByteEffect b s = .raised w t) :
    ∃ info, w = .shortFrame info := by
  rcases rxByteEffect_cases b s with ⟨-, heff⟩ | ⟨-, heff⟩ | ⟨-, -, heff⟩ | ⟨-, -, heff⟩ | ⟨-, heff⟩ <;> rw [heff] at h
  case inr.inl =>
    rcases rxEnvelopeByte_cases b s with ⟨-, heff⟩ | ⟨-, -, heff⟩ | ⟨-, -, heff⟩ <;> rw [heff] at h
    case inr.inl => cases h; exact ⟨_, rfl⟩
    all_goals cases h
  all_goals cases h

/-- An inbound frame as one object touches the deframer and the payload buffer, whatever fault it carries of its own. -/
theorem deliver_leaves (bs : List Byte) {first : Option BlockFault}
    (hfirst : ∀ w, first = some w → ∃ info, w = .shortFrame info) (s : State) :
    Leaves [deframer, payload] s (deliver bs first s) := by
  induction bs generalizing first s with
  | nil =>
    have hend := rxEndEffect_leaves s
    unfold deliver
    split
    next t r w heff =>
      obtain ⟨info, rfl⟩ := hfirst w rfl
      rw [heff] at hend
      exact Within.trans hend (within_deframer rfl rfl rfl)
    next => exact hend
  | cons b bs ih =>
    have hbyte := rxByteEffect_leaves b s
    unfold deliver
    split
    next t r heff =>
      rw [heff] at hbyte
      exact (ih hfirst t).after hbyte
    next w t heff =>
      rw [heff] at hbyte
      refine (ih (fun w' hw => ?_) _).after hbyte
      obtain rfl := Option.some.inj hw
      exact rxByteEffect_raised heff
    next => exact hbyte

/-- `PL.WRITE` touches the payload buffer. -/
theorem plWriteEffect_leaves (i : BitVec 16) (b : Byte) (s : State) : Leaves [payload] s (plWriteEffect i b s) := by
  rcases plWriteEffect_cases i b s with ⟨-, heff⟩ | ⟨-, -, heff⟩ | ⟨-, -, heff⟩ <;> rw [heff]
  · trivial
  · exact within_payload rfl rfl rfl rfl
  · trivial

/-- `PL.SETLEN` touches the payload buffer. -/
theorem plSetlenEffect_leaves (n : BitVec 16) (s : State) : Leaves [payload] s (plSetlenEffect n s) := by
  rcases plSetlenEffect_cases n s with ⟨-, heff⟩ | ⟨-, -, -, heff⟩ | ⟨-, -, -, heff⟩ | ⟨-, -, heff⟩ <;> rw [heff]
  · trivial
  · trivial
  · exact within_payload rfl rfl rfl rfl
  · trivial

/-- `TD.READ` touches nothing. -/
theorem tdReadEffect_leaves (k : BitVec 16) (s : State) : Leaves [] s (tdReadEffect k s) := by
  rcases tdReadEffect_cases k s with ⟨-, heff⟩ | ⟨-, -, heff⟩ | ⟨-, -, ⟨x, -, heff⟩ | ⟨-, heff⟩⟩ <;> rw [heff]
  · trivial
  · trivial
  · exact Within.refl _ s
  · trivial

/-- The stages of a field touch the extractor; the one fault they raise is the extractor's. -/
theorem runStages_leaves (d : Descriptor) (idx : BitVec 8) (s : State) : Leaves [extractor] s (runStages d idx s) := by
  rcases runStages_cases d idx s with ⟨-, heff⟩ | ⟨-, -, heff⟩ | ⟨-, -, heff⟩ | ⟨sr, -, -, -, heff⟩ <;> rw [heff]
  · exact within_extractor rfl rfl rfl rfl
  · trivial
  · trivial
  · exact within_extractor (by simp) (by simp) (by simp) (by simp)

/-- A pass of an array touches the extractor. -/
theorem arrayPass_leaves (d : Descriptor) (count : BitVec 8) (s : State) :
    Leaves [extractor] s (arrayPass d count s) := by
  rcases arrayPass_cases d count s with ⟨-, heff⟩ | ⟨-, heff⟩ <;> rw [heff]
  · exact within_extractor rfl rfl rfl rfl
  · have hnext : ∀ t, Within [extractor] t (nextElement count t) := fun t =>
      within_extractor (by simp) (by simp) (by simp) (by simp)
    have henter : Within [extractor] s (enterArray s) := within_extractor (by simp) (by simp) (by simp) (by simp)
    exact ((runStages_leaves d _ _).andThen (f := fun t => .done (nextElement count t) .ok) hnext).after henter

/-- A pass of a descriptor touches the extractor. -/
theorem descriptorPass_leaves (d : Descriptor) (s : State) : Leaves [extractor] s (descriptorPass d s) := by
  unfold descriptorPass
  cases d.rep with
  | once => exact (runStages_leaves d _ _).andThen fun t => within_extractor rfl rfl rfl rfl
  | countN => exact arrayPass_leaves d _ s
  | countTN => exact arrayPass_leaves d _ s

/-- Any number of passes touches the extractor. -/
theorem repeatPass_leaves (d : Descriptor) (k : Nat) (s : State) : Leaves [extractor] s (repeatPass d k s) := by
  induction k generalizing s with
  | zero => exact Within.refl _ s
  | succ k ih => exact (descriptorPass_leaves d s).andThen ih

/-- A walk over descriptors touches the extractor. -/
theorem runDescriptors_leaves (ds : List Descriptor) (s : State) : Leaves [extractor] s (runDescriptors ds s) := by
  induction ds generalizing s with
  | nil => exact Within.refl _ s
  | cons d ds ih => exact (repeatPass_leaves d _ s).andThen ih

/-- `TD.DECODE` touches the extractor. -/
theorem tdDecodeEffect_leaves (s : State) : Leaves [extractor] s (tdDecodeEffect s) := by
  have hvalid : ∀ t, Within [extractor] t (setTdValid t) := fun t => within_extractor rfl rfl rfl rfl
  have hstart : Within [extractor] s (startDecode s) := within_extractor rfl rfl rfl rfl
  exact ((runDescriptors_leaves _ _).andThen (f := fun t => .done (setTdValid t) .ok) hvalid).after hstart

/-! ## The units of every instruction -/

/-- The units of an instruction's row. -/
def touches : Instr → List BlockUnit
  | .crcInit | .crcByte _ | .crcBlock _ => [checksum]
  | .txLoad .. | .txBuild .. | .txRead1 | .txPayload _ | .txFrame .. | .txf .. => [framer]
  | .rxByte _ | .rxEnd | .rxFrame _ | .rxf _ => [deframer, payload]
  | .plWrite .. | .plSetlen _ | .plLoad _ => [payload]
  | .decodePayload _ => [payload, extractor]
  | .crcRead | .reserved3 | .reserved6 | .reserved7 | .reservedE | .tdRead _ => []
  | .sysReset => [checksum, framer, deframer, payload, extractor]
  | .tdDecode | .onlineStatus | .batteriesSeriesNumber | .cellIVoltage | .maxCellNumber | .maxCellVoltage
  | .minCellNumber | .minCellVoltage | .totalCurrent | .soc | .soh | .actualCapacity | .surplusCapacity
  | .nominalCapacity | .batteriesTemperatureNumber | .cellTemperatureI | .environmentalTemperature | .pcbTemperature
  | .maxTemperatureCellNumber | .maxTemperatureCellValue | .minTemperatureCellNumber | .minTemperatureCellValue
  | .fault1 | .fault2 | .alert1 | .alert2 | .alert3 | .alert4 | .cycleIndex | .totalVoltage | .status
  | .totalChargingCapacity | .totalDischargeCapacity | .totalRechargeTime | .totalDischargeTime | .batteryType =>
    [extractor]

/-- The descriptors' rows are the extractor's. -/
theorem touches_of_tpl {i : Instr} (h : i.format = .tpl) : touches i = [extractor] := by
  cases i
  case onlineStatus | batteriesSeriesNumber | cellIVoltage | maxCellNumber | maxCellVoltage | minCellNumber
      | minCellVoltage | totalCurrent | soc | soh | actualCapacity | surplusCapacity | nominalCapacity
      | batteriesTemperatureNumber | cellTemperatureI | environmentalTemperature | pcbTemperature
      | maxTemperatureCellNumber | maxTemperatureCellValue | minTemperatureCellNumber | minTemperatureCellValue
      | fault1 | fault2 | alert1 | alert2 | alert3 | alert4 | cycleIndex | totalVoltage | status
      | totalChargingCapacity | totalDischargeCapacity | totalRechargeTime | totalDischargeTime | batteryType => rfl
  all_goals cases h

/-- A host operation touches its units only. -/
theorem within_of_cw {i : Instr} (h : i.format = .cw) (hreset : i ≠ .sysReset) {s t : State} (ht : exec i s = .next t) :
    Within (touches i) s t := by
  cases i with
  | crcInit => exact within_of_report (e := .done (setAcc Config.crcInit s) .ok) (within_checksum rfl rfl rfl rfl) ht
  | crcByte b =>
    exact within_of_report (e := .done (setAcc (crcByte s.cu.acc b) s) .ok) (within_checksum rfl rfl rfl rfl) ht
  | crcRead => exact within_of_report (e := .done s (.checksum s.cu.acc)) (Within.refl _ s) ht
  | reserved3 | reserved6 | reserved7 | reservedE => exact within_of_report (e := .refused .reservedOp) trivial ht
  | txLoad i b => exact within_of_report (txLoadEffect_leaves i b s) ht
  | txBuild cmd addr plen => exact within_of_report (txBuildEffect_leaves cmd addr plen s) ht
  | txRead1 => exact within_of_report (txBuildEffect_leaves Config.cmdRead1 0 0 s) ht
  | rxByte b => exact within_of_report (rxByteEffect_leaves b s) ht
  | rxEnd => exact within_of_report (rxEndEffect_leaves s) ht
  | plWrite i b => exact within_of_report (plWriteEffect_leaves i b s) ht
  | plSetlen n => exact within_of_report (plSetlenEffect_leaves n s) ht
  | tdDecode => exact within_of_report (tdDecodeEffect_leaves s) ht
  | tdRead k => exact within_of_report (tdReadEffect_leaves k s) ht
  | sysReset => exact absurd rfl hreset
  | _ => cases h

/-- An operation of a pseudo-operation's expansion (R92): of a command word, no reset, and of the same units. -/
def PartOf (i j : Instr) : Prop := j.format = .cw ∧ j ≠ .sysReset ∧ touches j ⊆ touches i

/-- Loads are parts of what touches the framer. -/
theorem partOf_of_mem_loads {i : Instr} (h : framer ∈ touches i) {bs : List Byte} {j : Instr} (hj : j ∈ loads bs) :
    PartOf i j := by
  obtain ⟨x, -, rfl⟩ := List.mem_map.mp hj
  exact ⟨rfl, nofun, List.cons_subset.mpr ⟨h, List.nil_subset _⟩⟩

/-- Writes are parts of what touches the payload buffer. -/
theorem partOf_of_mem_writes {i : Instr} (h : payload ∈ touches i) {bs : List Byte} {j : Instr} (hj : j ∈ writes bs) :
    PartOf i j := by
  obtain ⟨x, -, rfl⟩ := List.mem_map.mp hj
  exact ⟨rfl, nofun, List.cons_subset.mpr ⟨h, List.nil_subset _⟩⟩

/-- A pseudo-operation that answers a next state ran the operations of its expansion. -/
theorem exec_pseudo_cases {i : Instr} (h : i.format = .pseudo) {s t : State} (ht : exec i s = .next t) :
    ∃ is : List Instr, (∀ j ∈ is, PartOf i j) ∧ runAll (is.map exec) s = .next t := by
  cases i with
  | crcBlock bs =>
    refine ⟨.crcInit :: (bs.map .crcByte ++ [.crcRead]), ?_, ?_⟩
    · simp only [List.mem_cons, List.mem_append, List.mem_map, List.not_mem_nil, or_false]
      rintro j (rfl | ⟨b, -, rfl⟩ | rfl) <;> exact ⟨rfl, nofun, by simp [touches]⟩
    · rw [List.map_cons, List.map_append, List.map_map]
      exact ht
  | txPayload ps =>
    refine ⟨loads ps, fun j => partOf_of_mem_loads (by simp [touches]), ?_⟩
    simp only [exec, execTxPayload, ite_eq_iff, reduceCtorEq, and_false, or_false] at ht
    rw [map_exec_loads]
    exact ht.2
  | txFrame cmd addr ps =>
    refine ⟨loads ps ++ [.txBuild cmd addr (BitVec.ofNat 8 ps.length)], ?_, ?_⟩
    · simp only [List.mem_append, List.mem_singleton]
      rintro j (hj | rfl)
      · exact partOf_of_mem_loads (by simp [touches]) hj
      · exact ⟨rfl, nofun, by simp [touches]⟩
    · simp only [exec, execTxFrame, ite_eq_iff, reduceCtorEq, and_false, or_false] at ht
      rw [List.map_append, map_exec_loads]
      exact ht.2
  | rxFrame fs =>
    refine ⟨fs.map .rxByte ++ [.rxEnd], ?_, ?_⟩
    · simp only [List.mem_append, List.mem_map, List.mem_singleton]
      rintro j (⟨b, -, rfl⟩ | rfl) <;> exact ⟨rfl, nofun, by simp [touches]⟩
    · rw [List.map_append, List.map_map]
      exact ht
  | plLoad ps =>
    refine ⟨writes ps ++ [.plSetlen (BitVec.ofNat 16 ps.length)], ?_, ?_⟩
    · simp only [List.mem_append, List.mem_singleton]
      rintro j (hj | rfl)
      · exact partOf_of_mem_writes (by simp [touches]) hj
      · exact ⟨rfl, nofun, by simp [touches]⟩
    · simp only [exec, execPlLoad, ite_eq_iff, reduceCtorEq, and_false, or_false] at ht
      rw [List.map_append, map_exec_writes]
      exact ht.2
  | decodePayload ps =>
    refine ⟨writes ps ++ [.plSetlen (BitVec.ofNat 16 ps.length), .tdDecode], ?_, ?_⟩
    · simp only [List.mem_append, List.mem_cons, List.not_mem_nil, or_false]
      rintro j (hj | rfl | rfl)
      · exact partOf_of_mem_writes (by simp [touches]) hj
      · exact ⟨rfl, nofun, by simp [touches]⟩
      · exact ⟨rfl, nofun, by simp [touches]⟩
    · simp only [exec, execDecodePayload, ite_eq_iff, reduceCtorEq, and_false, or_false, plLoadSequence,
        List.append_assoc] at ht
      rw [List.map_append, map_exec_writes]
      exact ht.2
  | _ => cases h

/-- Every instruction but reset touches its units only. -/
theorem within_of_exec {i : Instr} (hreset : i ≠ .sysReset) {s t : State} (ht : exec i s = .next t) :
    Within (touches i) s t := by
  cases hf : i.format with
  | cw => exact within_of_cw hf hreset ht
  | pseudo =>
    obtain ⟨is, hparts, hrun⟩ := exec_pseudo_cases hf ht
    refine runAll_keeps (P := Within (touches i) s) (fun f hf u v hu hv => ?_) (Within.refl _ s) hrun
    obtain ⟨j, hj, rfl⟩ := List.mem_map.mp hf
    obtain ⟨hcw, hjreset, hsub⟩ := hparts j hj
    exact hu.trans ((within_of_cw hcw hjreset hv).mono hsub)
  | txf =>
    cases i with
    | txf cmd addr ps => exact within_of_report (sendFrameEffect_leaves cmd addr ps s) ht
    | _ => cases hf
  | rxf =>
    cases i with
    | rxf fs => exact within_of_report (deliver_leaves fs (fun _ hnone => absurd hnone (by simp)) s) ht
    | _ => cases hf
  | tpl =>
    obtain ⟨d, hd⟩ := exec_of_tpl hf
    rw [touches_of_tpl hf]
    exact within_of_report (descriptorPass_leaves d s) (hd s ▸ ht)

/-- Settles O54: each unit against the rows it belongs to. -/
theorem unitsDoNotDisturbEachOther : Obligations.UnitsDoNotDisturbEachOther := by
  intro i s t ht hreset
  have hwithin := within_of_exec hreset ht
  refine ⟨fun ⟨hinit, hbyte, hblock⟩ => hwithin.cu fun hmem => ?_,
    fun ⟨hload, hbuild, hread1, hpayload, hframe, htxf⟩ => hwithin.tf fun hmem => ?_,
    fun ⟨hbyte, hend, hframe, hrxf⟩ => hwithin.rd fun hmem => ?_,
    fun ⟨hbyte, hend, hframe, hrxf, hwrite, hsetlen, hload, hdecode⟩ => hwithin.pl fun hmem => ?_,
    fun ⟨htpl, htd, hdecode⟩ => hwithin.te fun hmem => ?_⟩
  · cases i
    case crcInit => exact hinit rfl
    case crcByte => exact hbyte _ rfl
    case crcBlock => exact hblock _ rfl
    case sysReset => exact hreset rfl
    all_goals simp [touches] at hmem
  · cases i
    case txLoad => exact hload _ _ rfl
    case txBuild => exact hbuild _ _ _ rfl
    case txRead1 => exact hread1 rfl
    case txPayload => exact hpayload _ rfl
    case txFrame => exact hframe _ _ _ rfl
    case txf => exact htxf _ _ _ rfl
    case sysReset => exact hreset rfl
    all_goals simp [touches] at hmem
  · cases i
    case rxByte => exact hbyte _ rfl
    case rxEnd => exact hend rfl
    case rxFrame => exact hframe _ rfl
    case rxf => exact hrxf _ rfl
    case sysReset => exact hreset rfl
    all_goals simp [touches] at hmem
  · cases i
    case rxByte => exact hbyte _ rfl
    case rxEnd => exact hend rfl
    case rxFrame => exact hframe _ rfl
    case rxf => exact hrxf _ rfl
    case plWrite => exact hwrite _ _ rfl
    case plSetlen => exact hsetlen _ rfl
    case plLoad => exact hload _ rfl
    case decodePayload => exact hdecode _ rfl
    case sysReset => exact hreset rfl
    all_goals simp [touches] at hmem
  · cases i
    case tdDecode => exact htd rfl
    case decodePayload => exact hdecode _ rfl
    case sysReset => exact hreset rfl
    all_goals simp [touches, Instr.format] at hmem htpl

/-- Settles O55: the emitted bytes are part of every instruction's frame. -/
theorem emittedBytesStay : Obligations.EmittedBytesStay := fun _ _ _ ht hreset => (within_of_exec hreset ht).txout

/-! ## One result each (logs 1 and 2) -/

/-- A blind operation keeps the host's port. -/
theorem host_of_hostBlind {f : State → Effect} (h : HostBlind f) (s : State) : (f s).All fun t => t.host = s.host := by
  have hself : f s = effectOnHost (fun _ => s.host) (f s) := h (fun _ => s.host) s
  revert hself
  cases f s with
  | done t r => exact fun hself => (congrArg State.host (Effect.done.inj hself).1).trans rfl
  | raised w t => exact fun hself => (congrArg State.host (Effect.raised.inj hself).2).trans rfl
  | refused => exact fun _ => trivial
  | stopped => exact fun _ => trivial

/-- Recording a fault is blind. -/
theorem recordFault_onHost (w : BlockFault) (g : HostPort → HostPort) (s : State) :
    recordFault w (onHost g s) = onHost g (recordFault w s) := by
  cases w <;> rfl

/-- An inbound frame as one object is blind. -/
theorem deliver_hostBlind (bs : List Byte) (first : Option BlockFault) : HostBlind (deliver bs first) := by
  induction bs generalizing first with
  | nil =>
    intro g s
    unfold deliver
    rw [rxEndEffect_hostBlind]
    cases rxEndEffect s <;> cases first <;> rfl
  | cons b bs ih =>
    intro g s
    unfold deliver
    rw [rxByteEffect_hostBlind]
    cases rxByteEffect b s with
    | done t r => exact ih first g t
    | raised w t => exact (congrArg _ (recordFault_onHost w g t)).trans (ih (some w) g _)
    | refused => rfl
    | stopped => rfl

/-- Every instruction but a pseudo-operation reports an effect that is blind. -/
theorem exec_hostBlind_of_ne_pseudo {i : Instr} (h : i.format ≠ .pseudo) :
    ∃ f : State → Effect, (∀ s, exec i s = report s (f s)) ∧ HostBlind f := by
  cases hf : i.format with
  | cw => exact exec_hostBlind hf
  | pseudo => exact absurd hf h
  | txf =>
    cases i with
    | txf cmd addr ps =>
      exact ⟨_, fun _ => rfl, fun _ _ => ite_eq_map_ite .rfl (fun _ => rfl) fun _ => rfl⟩
    | _ => cases hf
  | rxf =>
    cases i with
    | rxf fs => exact ⟨_, fun _ => rfl, deliver_hostBlind fs none⟩
    | _ => cases hf
  | tpl =>
    obtain ⟨d, hd⟩ := exec_of_tpl hf
    exact ⟨_, hd, descriptorPass_hostBlind d⟩

/-- One result more, and the pending words as they were. -/
theorem host_of_exec {i : Instr} (h : i.format ≠ .pseudo) {s t : State} (ht : exec i s = .next t) :
    ∃ r, t.host = { s.host with results := s.host.results ++ [r] } := by
  obtain ⟨f, hexec, hblind⟩ := exec_hostBlind_of_ne_pseudo h
  have hkeeps := host_of_hostBlind hblind s
  rw [hexec] at ht
  rcases report_cases ht with ⟨u, r, heff, rfl⟩ | ⟨w, u, heff, rfl⟩ | ⟨why, heff, rfl⟩
  · rw [heff] at hkeeps
    exact ⟨r, by rw [← show u.host = s.host from hkeeps]; rfl⟩
  · rw [heff] at hkeeps
    refine ⟨.fault w, ?_⟩
    rw [takeFault_eq, ← show u.host = s.host from hkeeps, ← recordFault_host w u]
    rfl
  · exact ⟨.refused why, rfl⟩

/-- Settles O56: one result for each operation, and a pseudo-operation is a sequence of them. -/
theorem everyOperationAnswersOnce : Obligations.EveryOperationAnswersOnce := by
  intro i s t ht
  by_cases hpseudo : i.format = .pseudo
  · obtain ⟨is, hparts, hrun⟩ := exec_pseudo_cases hpseudo ht
    have hkept : t.host.pending = s.host.pending ∧ s.host.results <+: t.host.results := by
      refine runAll_keeps (P := fun u => u.host.pending = s.host.pending ∧ s.host.results <+: u.host.results)
        (fun f hf u v ⟨hpending, hresults⟩ hv => ?_) ⟨rfl, List.prefix_rfl⟩ hrun
      obtain ⟨j, hj, rfl⟩ := List.mem_map.mp hf
      obtain ⟨hcw, -, -⟩ := hparts j hj
      obtain ⟨r, hr⟩ := host_of_exec (by simp [hcw]) hv
      rw [hr]
      exact ⟨hpending, hresults.trans (List.prefix_append _ _)⟩
    exact ⟨hkept.1, hkept.2, fun hne => absurd hpseudo hne⟩
  · obtain ⟨r, hr⟩ := host_of_exec hpseudo ht
    rw [hr]
    exact ⟨rfl, List.prefix_append _ _, fun _ => ⟨r, rfl⟩⟩

end Sys2Proof.Proofs.Frames

/-!
PROOFS. The invariant (10_state.md R45) and the faults (60_exceptions.md R250 to R261): from a state of the invariant every
host operation ends in one, and a fault it answers is recorded by its own unit alone.
-/

namespace Sys2Proof.Proofs.Invariant

open Sys2Proof Sys2Proof.Machine Sys2Proof.Claims Sys2Proof.Proofs.CommandWord Sys2Proof.Proofs.TxFramer
  Sys2Proof.Proofs.RxDeframer Sys2Proof.Proofs.ExtractPipeline Sys2Proof.Proofs.Walk Sys2Proof.Proofs.Decode
  Sys2Proof.Proofs.HostPort Sys2Proof.Proofs.Exceptions

/-! ## The invariant unit by unit -/

/-- The invariant's clauses on the framer. -/
structure FramerInv (tf : TransmitFramer) : Prop where
  pbuf_wf : Memory.wf tf.pbuf
  pbuf_within : Memory.within Config.pmax tf.pbuf
  status : statusOk tf.txDone tf.txErr tf.txCause 2

/-- The invariant's clauses on the deframer and the payload buffer. -/
structure ReceiveInv (rd : ReceiveDeframer) (pl : PayloadBuffer) : Prop where
  plbuf_wf : Memory.wf pl.plbuf
  plbuf_within : Memory.within Config.plMax pl.plbuf
  plLen_le : pl.plLen.toNat ≤ Config.plMax
  written : (memSpan pl.plbuf 0 pl.plLen.toNat).isSome
  status : statusOk rd.rxDone rd.rxErr rd.rxCause 3
  deframer : deframerOk rd pl.plLen

/-- The invariant's clauses on the extractor. -/
structure ExtractorInv (te : TelemetryExtractor) : Prop where
  status : statusOk te.tdValid te.tdErr te.tdCause 1
  snap_count : te.snapCnt.toNat = te.snap.length
  snap_le : te.snap.length ≤ Config.snapMax
  entries : ∀ x ∈ te.snap, entryOk x
  fsq_le : te.fsq.toNat ≤ 35
  snapshot : snapshotOk te

/-- No clause of the invariant speaks of two of the three. -/
theorem inv_iff {s : State} : Inv s ↔ FramerInv s.tf ∧ ReceiveInv s.rd s.pl ∧ ExtractorInv s.te where
  mp h := ⟨⟨h.pbuf_wf, h.pbuf_within, h.tx_status⟩,
    ⟨h.plbuf_wf, h.plbuf_within, h.plLen_le, h.payload_written, h.rx_status, h.deframer⟩,
    ⟨h.td_status, h.snap_count, h.snap_le, h.entries, h.fsq_le, h.snapshot⟩⟩
  mpr := fun ⟨htf, hrx, hte⟩ =>
    { pbuf_wf := htf.pbuf_wf, pbuf_within := htf.pbuf_within, tx_status := htf.status
      plbuf_wf := hrx.plbuf_wf, plbuf_within := hrx.plbuf_within, plLen_le := hrx.plLen_le
      payload_written := hrx.written, rx_status := hrx.status, deframer := hrx.deframer
      td_status := hte.status, snap_count := hte.snap_count, snap_le := hte.snap_le, entries := hte.entries
      fsq_le := hte.fsq_le, snapshot := hte.snapshot }

/-- The host's port is in no clause. -/
theorem inv_congr {s t : State} (h : Inv s) (htf : t.tf = s.tf) (hrd : t.rd = s.rd) (hpl : t.pl = s.pl)
    (hte : t.te = s.te) : Inv t := by
  rw [inv_iff] at h ⊢
  rwa [htf, hrd, hpl, hte]

/-- Settles O57: empty buffers, cleared status, `R_IDLE`, no snapshot. -/
theorem invariantAtReset : Obligations.InvariantAtReset := by
  obtain ⟨hpbufWf, hpbufWithin, hplbufWf, hplbufWithin⟩ := reset_buffers
  have hclear : ∀ code, statusOk false false 0 code := fun _ => ⟨by simp, rfl⟩
  exact inv_iff.mpr ⟨⟨hpbufWf, hpbufWithin, hclear 2⟩,
    ⟨hplbufWf, hplbufWithin, Nat.zero_le _, rfl, hclear 3, trivial⟩,
    ⟨hclear 1, rfl, Nat.zero_le _, nofun, Nat.zero_le _, nofun⟩⟩

/-! ## How an operation ends -/

/-- What R250 and R254 say of a fault an operation answered: who raised it, what it recorded, and that it stays in its
unit. -/
def Recorded (i : Instr) (s t : State) : BlockFault → Prop
  | .truncatedPayload fsq li cur =>
    i = .tdDecode ∧ t.te.tdValid = false ∧ t.te.tdErr = true ∧ t.te.tdCause = 1 ∧
    t.te.fsq = fsq ∧ t.te.li = li ∧ t.te.cur = cur ∧
    t.cu = s.cu ∧ t.tf = s.tf ∧ t.rd = s.rd ∧ t.pl = s.pl
  | .lengthOverflow plen =>
    (∃ cmd addr, i = .txBuild cmd addr plen) ∧ 250 < plen.toNat ∧
    t.tf = { s.tf with txDone := false, txErr := true, txCause := 2 } ∧
    t.cu = s.cu ∧ t.rd = s.rd ∧ t.pl = s.pl ∧ t.te = s.te
  | .shortFrame _ =>
    (i = .rxEnd ∨ ∃ b, i = .rxByte b) ∧ t.rd.rxDone = false ∧ t.rd.rxErr = true ∧ t.rd.rxCause = 3 ∧
    t.pl.plLen = 0 ∧ t.pl.plbuf = s.pl.plbuf ∧ t.cu = s.cu ∧ t.tf = s.tf ∧ t.te = s.te

/-- An operation does not stop, and leaves the invariant. -/
inductive EndsWell (i : Instr) (s : State) : Prop
  /-- It answers no fault. -/
  | quiet (t : State) (r : Result) (eq : exec i s = .next (answer r t)) (no_fault : ∀ f, r ≠ .fault f)
      (inv : Inv t) (host : t.host = s.host)
  /-- It answers a fault its unit recorded. -/
  | fault (t : State) (f : BlockFault) (eq : exec i s = .next (answer (.fault f) t)) (recorded : Recorded i s t f)
      (inv : Inv t) (host : t.host = s.host)

/-- A refusal changes nothing. -/
theorem EndsWell.refused {i : Instr} {s : State} {why : RefusalReason} (h : Inv s)
    (eq : exec i s = .next (answer (.refused why) s)) : EndsWell i s :=
  .quiet s _ eq nofun h rfl

/-! ## The framer -/

/-- `TX.LOAD` writes inside the buffer. -/
theorem txLoad_endsWell (i : BitVec 16) (b : Byte) {s : State} (h : Inv s) : EndsWell (.txLoad i b) s := by
  obtain ⟨htf, hrx, hte⟩ := inv_iff.mp h
  by_cases hle : i.toNat ≤ 249
  · have hlt : i.toNat < Config.pmax := hle.trans_lt (by decide)
    exact .quiet _ _ (exec_txLoad_of_le b s hle) nofun
      (inv_iff.mpr ⟨⟨memWrite_wf _ _ htf.pbuf_wf, memWrite_within b hlt htf.pbuf_within, htf.status⟩, hrx, hte⟩) rfl
  · exact .refused h (exec_txLoad_of_gt b s (by omega))

/-- `TX.BUILD` sets its status, and its one fault is `LengthOverflow`. -/
theorem txBuild_endsWell (cmd : Word) (addr : Byte) (plen : BitVec 8) {s : State} (h : Inv s) :
    EndsWell (.txBuild cmd addr plen) s := by
  obtain ⟨htf, hrx, hte⟩ := inv_iff.mp h
  by_cases hgt : 250 < plen.toNat
  · refine .fault _ _ (exec_txBuild_of_gt cmd addr s hgt) ?_ ?_ rfl
    · exact ⟨⟨cmd, addr, rfl⟩, hgt, rfl, rfl, rfl, rfl, rfl⟩
    · exact inv_iff.mpr ⟨⟨htf.pbuf_wf, htf.pbuf_within, by simp [statusOk]⟩, hrx, hte⟩
  cases hp : memSpan s.tf.pbuf 0 plen.toNat with
  | none => exact .refused h (exec_txBuild_of_unwritten cmd addr (by omega) hp)
  | some p =>
    refine .quiet _ _ (exec_txBuild_of_written cmd addr (by omega) hp) nofun ?_ rfl
    exact inv_iff.mpr ⟨⟨htf.pbuf_wf, htf.pbuf_within, by simp [statusOk]⟩, hrx, hte⟩

/-- `TX.READ1` is a `TX.BUILD` of an empty payload, which is always written. -/
theorem txRead1_endsWell {s : State} (h : Inv s) : EndsWell .txRead1 s := by
  obtain ⟨htf, hrx, hte⟩ := inv_iff.mp h
  refine .quiet _ _ ((exec_txRead1 s).trans (exec_txBuild_of_written (p := []) 0x0001 0x00 (by decide) rfl)) nofun ?_ rfl
  exact inv_iff.mpr ⟨⟨htf.pbuf_wf, htf.pbuf_within, by simp [statusOk]⟩, hrx, hte⟩

/-! ## The deframer and the payload buffer -/

/-- A write leaves what was written written. -/
theorem written_memWrite {m : Memory} {n : Nat} (i : Nat) (b : Byte) (h : (memSpan m 0 n).isSome) :
    (memSpan (memWrite m i b) 0 n).isSome := by
  rw [memSpan_isSome_iff] at h ⊢
  intro j hj
  rw [memRead_memWrite]
  split
  · simp
  · exact h j hj

/-- A write behind a written span makes it one longer. -/
theorem written_memWrite_succ {m : Memory} {n : Nat} (b : Byte) (h : (memSpan m 0 n).isSome) :
    (memSpan (memWrite m n b) 0 (n + 1)).isSome := by
  rw [memSpan_isSome_iff] at h ⊢
  intro j hj
  rw [memRead_memWrite]
  split
  · simp
  · exact h j (by omega)

/-- An empty payload. -/
theorem ReceiveInv.empty {rd rd' : ReceiveDeframer} {pl : PayloadBuffer} (h : ReceiveInv rd pl)
    (hstatus : statusOk rd'.rxDone rd'.rxErr rd'.rxCause 3) (hrd : deframerOk rd' 0) :
    ReceiveInv rd' { pl with plLen := 0 } :=
  ⟨h.plbuf_wf, h.plbuf_within, Nat.zero_le _, rfl, hstatus, hrd⟩

/-- The payload buffer left alone. -/
theorem ReceiveInv.status_only {rd rd' : ReceiveDeframer} {pl : PayloadBuffer} (h : ReceiveInv rd pl)
    (hstatus : statusOk rd'.rxDone rd'.rxErr rd'.rxCause 3) (hrd : deframerOk rd' pl.plLen) : ReceiveInv rd' pl :=
  ⟨h.plbuf_wf, h.plbuf_within, h.plLen_le, h.written, hstatus, hrd⟩

/-- A byte of the envelope: the counts of `R_ENV` go on, and the sixth byte begins the state its outer length asks for. -/
theorem rxByte_env_endsWell (b : Byte) {s : State} (h : Inv s) (henv : s.rd.rxs = .env) : EndsWell (.rxByte b) s := by
  obtain ⟨htf, hrx, hte⟩ := inv_iff.mp h
  obtain ⟨hpos, hle, hneed, hempty, hdone, herr⟩ := by simpa only [deframerOk, henv] using hrx.deframer
  obtain ⟨hinside, hshort, hcomplete, hpayload⟩ :=
    rxByteTakesTheEnvelope b (if s.rd.rxCnt = 2 then b else s.rd.rxL) s henv rfl
  generalize (if s.rd.rxCnt = 2 then b else s.rd.rxL) = l at *
  have hempty' : s.pl.plLen.toNat = 0 := by simp [hempty]
  by_cases hlt : s.rd.rxCnt.toNat < 5
  · refine .quiet _ _ (hinside fun hsix => ?_) nofun (inv_iff.mpr ⟨htf, hrx.status_only hrx.status ?_, hte⟩) rfl
    · have : (s.rd.rxCnt + 1).toNat = 6 := by rw [hsix]; rfl
      bv_omega
    · simp only [deframerOk, henv]
      refine ⟨?_, ?_, hneed, hempty, hdone, herr⟩ <;> bv_omega
  have hcnt : s.rd.rxCnt = 5 := BitVec.eq_of_toNat_eq (by simp; omega)
  rcases Nat.lt_trichotomy l.toNat 4 with hlow | hfour | hgt
  · refine .fault _ _ (hshort hcnt hlow) ⟨.inr ⟨b, rfl⟩, hdone, rfl, rfl, hempty, rfl, rfl, rfl, rfl⟩ ?_ rfl
    exact inv_iff.mpr ⟨htf, hrx.status_only (by simp [statusOk, hdone]) ⟨hlow, hneed, rfl, hempty, hdone, rfl⟩, hte⟩
  · obtain rfl : l = 4 := BitVec.eq_of_toNat_eq hfour
    refine .quiet _ _ (hcomplete hcnt rfl) nofun (inv_iff.mpr ⟨htf, hrx.status_only hrx.status ?_, hte⟩) rfl
    exact ⟨le_rfl, rfl, hempty', rfl, hdone, herr⟩
  · have hrest : (l - 4).toNat = l.toNat - 4 := by bv_omega
    refine .quiet _ _ (hpayload hcnt hgt) nofun (inv_iff.mpr ⟨htf, hrx.status_only hrx.status ?_, hte⟩) rfl
    exact ⟨hgt.le, hrest, by simp only [hempty', hrest]; omega, by rw [hempty']; rfl, hdone, herr⟩

/-- A byte of the payload: `PL_LEN` stays below the 251 bytes a frame can announce. -/
theorem rxByte_pay_endsWell (b : Byte) {s : State} (h : Inv s) (hpay : s.rd.rxs = .pay) : EndsWell (.rxByte b) s := by
  obtain ⟨htf, hrx, hte⟩ := inv_iff.mp h
  obtain ⟨hlow, hneed, hinside, hcount, hdone, herr⟩ := by simpa only [deframerOk, hpay] using hrx.deframer
  have hrange : s.rd.rxL.toNat < 256 := s.rd.rxL.isLt
  have hlt : s.pl.plLen.toNat < 1069 := by omega
  have hnext : (s.pl.plLen + 1).toNat = s.pl.plLen.toNat + 1 := by bv_omega
  have hcount' : (s.rd.rxCnt + 1).toNat = 6 + (s.pl.plLen.toNat + 1) := by bv_omega
  have hexec := exec_rxByte_of_pay b hpay hlt
  rw [storePayload_eq b hpay hlt] at hexec
  refine .quiet _ _ hexec nofun (inv_iff.mpr ⟨htf, ⟨?_, ?_, ?_, ?_, hrx.status, ?_⟩, hte⟩) rfl
  · exact memWrite_wf _ _ hrx.plbuf_wf
  · exact memWrite_within b hlt hrx.plbuf_within
  · exact hnext.trans_le hlt
  · simp only [hnext]
    exact written_memWrite_succ b hrx.written
  · by_cases hlast : s.pl.plLen.toNat + 1 = s.rd.rxNeed.toNat
    · simp only [deframerOk, if_pos hlast]
      exact ⟨hlow, hneed, hnext.trans hlast, by rw [hcount', hlast], hdone, herr⟩
    · simp only [deframerOk, if_neg hlast]
      exact ⟨hlow, hneed, by omega, by rw [hcount', hnext], hdone, herr⟩

/-- `RX.BYTE` in each of the five states. -/
theorem rxByte_endsWell (b : Byte) {s : State} (h : Inv s) : EndsWell (.rxByte b) s := by
  cases hs : s.rd.rxs with
  | idle =>
    obtain ⟨htf, hrx, hte⟩ := inv_iff.mp h
    refine .quiet _ _ (rxByteStartsAFrame.2 b s hs) nofun (inv_iff.mpr ⟨htf, hrx.empty ?_ ?_, hte⟩) rfl
    · simp [statusOk]
    · simp [deframerOk]
  | env => exact rxByte_env_endsWell b h hs
  | pay => exact rxByte_pay_endsWell b h hs
  | tail => exact .quiet _ _ (exec_rxByte_of_tail_or_fault b (.inl hs)) nofun h rfl
  | fault => exact .quiet _ _ (exec_rxByte_of_tail_or_fault b (.inr hs)) nofun h rfl

/-- A frame cut off. -/
theorem rxEnd_cut_endsWell {s : State} (h : Inv s) (hs : s.rd.rxs = .pay ∨ s.rd.rxs = .env) (hdone : s.rd.rxDone = false) :
    EndsWell .rxEnd s := by
  obtain ⟨htf, hrx, hte⟩ := inv_iff.mp h
  refine .fault _ _ (exec_rxEnd_of_pay_or_env hs) ⟨.inl rfl, hdone, rfl, rfl, rfl, rfl, rfl, rfl, rfl⟩ ?_ rfl
  exact inv_iff.mpr ⟨htf, hrx.empty (by simp [statusOk, hdone]) trivial, hte⟩

/-- `RX.END` in each of the five states. -/
theorem rxEnd_endsWell {s : State} (h : Inv s) : EndsWell .rxEnd s := by
  obtain ⟨htf, hrx, hte⟩ := inv_iff.mp h
  have hdeframer := hrx.deframer
  cases hs : s.rd.rxs <;> simp only [deframerOk, hs] at hdeframer
  case idle =>
    refine .fault _ _ (exec_rxEnd_of_idle hs) ⟨.inl rfl, rfl, rfl, rfl, rfl, rfl, rfl, rfl, rfl⟩ ?_ rfl
    exact inv_iff.mpr ⟨htf, hrx.empty (by simp [statusOk]) trivial, hte⟩
  case env =>
    obtain ⟨-, -, -, -, hdone, -⟩ := hdeframer
    exact rxEnd_cut_endsWell h (.inr hs) hdone
  case pay =>
    obtain ⟨-, -, -, -, hdone, -⟩ := hdeframer
    exact rxEnd_cut_endsWell h (.inl hs) hdone
  case tail =>
    obtain ⟨-, -, -, -, -, herr⟩ := hdeframer
    obtain ⟨-, hcause⟩ := hrx.status
    refine .quiet _ _ (exec_rxEnd_of_tail hs) nofun (inv_iff.mpr ⟨htf, hrx.status_only ?_ trivial, hte⟩) rfl
    exact ⟨by simp [herr], hcause⟩
  case fault =>
    exact .quiet _ _ (exec_rxEnd_of_fault hs) nofun (inv_iff.mpr ⟨htf, hrx.status_only hrx.status trivial, hte⟩) rfl

/-- Between frames the deframer's counters are free. -/
theorem deframerOk_of_idle {rd : ReceiveDeframer} (h : rd.rxs = .idle) (n : BitVec 11) : deframerOk rd n := by
  simp only [deframerOk, h]

/-- `PL.WRITE` writes inside the buffer. -/
theorem plWrite_endsWell (i : BitVec 16) (b : Byte) {s : State} (h : Inv s) : EndsWell (.plWrite i b) s := by
  obtain ⟨htf, hrx, hte⟩ := inv_iff.mp h
  by_cases hidle : s.rd.rxs = .idle
  · by_cases hle : i.toNat ≤ 1068
    · have hlt : i.toNat < Config.plMax := hle.trans_lt (by decide)
      refine .quiet _ _ (exec_plWrite_of_le b hidle hle) nofun (inv_iff.mpr ⟨htf, ⟨?_, ?_, ?_, ?_, ?_, ?_⟩, hte⟩) rfl
      · exact memWrite_wf _ _ hrx.plbuf_wf
      · exact memWrite_within b hlt hrx.plbuf_within
      · exact hrx.plLen_le
      · exact written_memWrite _ b hrx.written
      · exact hrx.status
      · exact hrx.deframer
    · exact .refused h (exec_plWrite_of_gt b hidle (by omega))
  · exact .refused h (exec_plWrite_of_busy i b hidle)

/-- `PL.SETLEN` takes only lengths that are written. -/
theorem plSetlen_endsWell (n : BitVec 16) {s : State} (h : Inv s) : EndsWell (.plSetlen n) s := by
  obtain ⟨htf, hrx, hte⟩ := inv_iff.mp h
  by_cases hidle : s.rd.rxs = .idle
  · by_cases hle : n.toNat ≤ 1069
    · cases hspan : memSpan s.pl.plbuf 0 n.toNat with
      | none => exact .refused h (exec_plSetlen_of_unwritten hidle hle hspan)
      | some p =>
        have hwritten : (memSpan s.pl.plbuf 0 n.toNat).isSome := by rw [hspan]; rfl
        have hlen : (n.setWidth 11).toNat = n.toNat := by rw [BitVec.toNat_setWidth]; omega
        refine .quiet _ _ (exec_plSetlen_of_written hidle hle hwritten) nofun
          (inv_iff.mpr ⟨htf, ⟨hrx.plbuf_wf, hrx.plbuf_within, ?_, ?_, hrx.status, ?_⟩, hte⟩) rfl
        · exact hlen.trans_le hle
        · simpa only [setPlLen_plLen, setPlLen_plbuf, hlen] using hwritten
        · exact deframerOk_of_idle hidle _
    · exact .refused h (exec_plSetlen_of_gt hidle (by omega))
  · exact .refused h (exec_plSetlen_of_busy n hidle)

/-! ## The extractor -/

/-- Every row of the table produces entries in their ranges (R168). -/
theorem entryOk_entryOf {d : Descriptor} (hd : d ∈ descriptorTable) (idx : BitVec 8) (sr : Word) :
    entryOk (entryOf d idx sr) := by
  have hrow : d.fid.toNat ≤ 34 ∧ d.off ≤ 30000 ∧ (d.e = 0 ∨ d.e = 2 ∨ d.e = 3) := by
    revert d
    decide
  obtain ⟨hfid, hoff, he⟩ := hrow
  have hraw : (sr &&& d.mask).toNat < 65536 := (sr &&& d.mask).isLt
  refine ⟨hfid, ?_, ?_, he⟩ <;> simp only [entryOf, extract] <;> omega

/-- Every entry of a walk is in its range, where it returned and where it stopped. -/
def EntriesOk : Except Halt Walk → Prop
  | .ok w => ∀ x ∈ w.snap, entryOk x
  | .error h => ∀ x ∈ h.walk.snap, entryOk x

/-- One field. -/
theorem haltField_entriesOk (p : List Byte) {d : Descriptor} (hd : d ∈ descriptorTable) (idx : Nat) {w : Walk}
    (h : ∀ x ∈ w.snap, entryOk x) : EntriesOk (haltField p d idx w) := by
  unfold haltField
  split
  · exact h
  · intro x hx
    rcases List.mem_append.mp hx with hx | hx
    · exact h x hx
    · exact List.mem_singleton.mp hx ▸ entryOk_entryOf hd _ _

/-- The elements of an array. -/
theorem haltElements_entriesOk (p : List Byte) {d : Descriptor} (hd : d ∈ descriptorTable) (k li : Nat) {w : Walk}
    (h : ∀ x ∈ w.snap, entryOk x) : EntriesOk (haltElements p d li k w) := by
  induction k generalizing li w with
  | zero => exact h
  | succ k ih =>
    have hfield := haltField_entriesOk p hd li h
    rw [haltElements]
    revert hfield
    cases haltField p d li w with
    | ok v => exact ih (li + 1)
    | error e => exact id

/-- One descriptor. -/
theorem haltDescriptor_entriesOk (p : List Byte) {d : Descriptor} (hd : d ∈ descriptorTable) {w : Walk}
    (h : ∀ x ∈ w.snap, entryOk x) : EntriesOk (haltDescriptor p d w) := by
  unfold haltDescriptor
  cases d.rep with
  | once => exact haltField_entriesOk p hd 0 h
  | countN => exact haltElements_entriesOk p hd _ 1 h
  | countTN => exact haltElements_entriesOk p hd _ 1 h

/-- Descriptors of the table one after the other. -/
theorem haltDescriptors_entriesOk (p : List Byte) (ds : List Descriptor) (hds : ds ⊆ descriptorTable) {w : Walk}
    (h : ∀ x ∈ w.snap, entryOk x) : EntriesOk (haltDescriptors p ds w) := by
  induction ds generalizing w with
  | nil => exact h
  | cons d ds ih =>
    obtain ⟨hd, htail⟩ := List.cons_subset.mp hds
    have hone := haltDescriptor_entriesOk p hd h
    rw [haltDescriptors]
    revert hone
    cases haltDescriptor p d w with
    | ok v => exact ih htail
    | error e => exact id

/-- The whole walk. -/
theorem haltWalk_entriesOk (p : List Byte) : EntriesOk (haltWalk p) :=
  haltDescriptors_entriesOk p descriptorTable (List.Subset.refl _) nofun

/-- What a completed walk leaves in the extractor. -/
theorem decoded_inv {p : List Byte} {w : Walk} (hw : haltWalk p = .ok w) : ExtractorInv (decoded w) := by
  have hlay : Layout p 35 0 w := by simpa [hw] using haltWalk_reaches p
  have hentries : ∀ x ∈ w.snap, entryOk x := by simpa [hw, EntriesOk] using haltWalk_entriesOk p
  have hcells : cells p < 256 := (p.getD 1 0).isLt
  have htemps : temps p < 256 := (p.getD (20 + 2 * cells p) 0).isLt
  have hn : w.n = cells p := hlay.n_eq
  have htn : w.tn = temps p := hlay.tn_eq
  have hcur := hlay.cur_end
  have hlength := hlay.length_end
  refine ⟨by simp [decoded, statusOk], ?_, ?_, hentries, le_rfl, fun _ => ⟨rfl, rfl, ?_, ?_⟩⟩
  · simp only [decoded, BitVec.toNat_ofNat]; omega
  · simp only [decoded, Config.snapMax]; omega
  · simp only [decoded, BitVec.toNat_ofNat, Config.fixBytes]; omega
  · simp only [decoded, BitVec.toNat_ofNat, Config.nFix]; omega

/-- What a walk that stopped leaves in the extractor. -/
theorem stoppedAt_inv {s : State} {p : List Byte} {h : Halt} (hp : memSpan s.pl.plbuf 0 s.pl.plLen.toNat = some p)
    (hw : haltWalk p = .error h) : ExtractorInv (stoppedAt h) := by
  have hstop : Stopped p h := by simpa [hw] using haltWalk_reaches p
  have hentries : ∀ x ∈ h.walk.snap, entryOk x := by simpa [hw, EntriesOk] using haltWalk_entriesOk p
  obtain ⟨hfid, -, -, -, -, hcount⟩ := stoppedAt_registers hp hstop
  obtain ⟨d, hd, -⟩ := hstop.truncated
  have hplace := place_lt (lt_of_row hd) hstop.field
  rw [← hstop.layout.length_eq] at hplace
  exact ⟨by simp [stoppedAt, extractorAt, statusOk], hcount, hplace.le, hentries, hfid ▸ (lt_of_row hd).le, nofun⟩

/-- In a state of the invariant the payload is written. -/
theorem exists_payload {s : State} (h : Inv s) : ∃ p, memSpan s.pl.plbuf 0 s.pl.plLen.toNat = some p :=
  Option.isSome_iff_exists.mp h.payload_written

/-- `TD.DECODE` returns or faults as the walk of its payload. -/
theorem tdDecode_endsWell {s : State} (h : Inv s) : EndsWell .tdDecode s := by
  obtain ⟨htf, hrx, -⟩ := inv_iff.mp h
  obtain ⟨p, hp⟩ := exists_payload h
  cases hw : haltWalk p with
  | ok w => exact .quiet _ _ (exec_tdDecode_of_ok hp hw) nofun (inv_iff.mpr ⟨htf, hrx, decoded_inv hw⟩) rfl
  | error e =>
    refine .fault _ _ (exec_tdDecode_of_error hp hw) ?_ (inv_iff.mpr ⟨htf, hrx, stoppedAt_inv hp hw⟩) rfl
    exact ⟨rfl, rfl, rfl, rfl, rfl, rfl, rfl, rfl, rfl, rfl, rfl⟩

/-- `TD.READ` finds an entry below `SNAP_CNT`. -/
theorem tdRead_endsWell (k : BitVec 16) {s : State} (h : Inv s) : EndsWell (.tdRead k) s := by
  cases hvalid : s.te.tdValid with
  | false => exact .refused h (exec_tdRead_of_not_valid k hvalid)
  | true =>
    by_cases hlt : k.toNat < s.te.snapCnt.toNat
    · have hx : s.te.snap[k.toNat]? = some (s.te.snap[k.toNat]'(h.snap_count ▸ hlt)) := List.getElem?_eq_getElem _
      exact .quiet _ _ (exec_tdRead_of_entry hvalid hlt hx) nofun h rfl
    · exact .refused h (exec_tdRead_of_ge hvalid (by omega))

/-! ## Every host operation -/

/-- From a state of the invariant every host operation ends well. -/
theorem endsWell_of_inv {i : Instr} (hi : i.format = .cw) {s : State} (h : Inv s) : EndsWell i s := by
  cases i with
  | crcInit => exact .quiet (setAcc Config.crcInit s) .ok rfl nofun (inv_congr h rfl rfl rfl rfl) rfl
  | crcByte b => exact .quiet (setAcc (crcByte s.cu.acc b) s) .ok rfl nofun (inv_congr h rfl rfl rfl rfl) rfl
  | crcRead => exact .quiet s (.checksum s.cu.acc) rfl nofun h rfl
  | reserved3 | reserved6 | reserved7 | reservedE => exact .refused (why := .reservedOp) h rfl
  | txLoad i b => exact txLoad_endsWell i b h
  | txBuild cmd addr plen => exact txBuild_endsWell cmd addr plen h
  | txRead1 => exact txRead1_endsWell h
  | rxByte b => exact rxByte_endsWell b h
  | rxEnd => exact rxEnd_endsWell h
  | plWrite i b => exact plWrite_endsWell i b h
  | plSetlen n => exact plSetlen_endsWell n h
  | tdDecode => exact tdDecode_endsWell h
  | tdRead k => exact tdRead_endsWell k h
  | sysReset => exact .quiet _ _ (exec_sysReset s) nofun (inv_congr invariantAtReset rfl rfl rfl rfl) rfl
  | _ => cases hi

/-- Every word is a host operation (R70). -/
theorem format_decodeWord (w : CommandWord) : (decodeWord w).format = .cw := by
  unfold decodeWord
  split
  case h_6 => split <;> rfl
  all_goals rfl

/-- A host operation does not stop and keeps the invariant. -/
theorem exec_of_inv {i : Instr} (hi : i.format = .cw) {s : State} (h : Inv s) : ∃ t, exec i s = .next t ∧ Inv t := by
  cases endsWell_of_inv hi h with
  | quiet t r heq _ hinv _ => exact ⟨_, heq, inv_congr hinv rfl rfl rfl rfl⟩
  | fault t f heq _ hinv _ => exact ⟨_, heq, inv_congr hinv rfl rfl rfl rfl⟩

/-- A step does not stop and keeps the invariant. -/
theorem step_of_inv {s : State} (h : Inv s) : ∃ t, step s = .next t ∧ Inv t := by
  cases hpending : s.host.pending with
  | nil => exact ⟨s, step_of_idle hpending, h⟩
  | cons w rest =>
    rw [step_of_pending hpending]
    exact exec_of_inv (format_decodeWord w) (inv_congr h rfl rfl rfl rfl)

/-- Settles O58: a step from a state of the invariant has one outcome, a state of the invariant. -/
theorem stepKeepsTheInvariant : Obligations.StepKeepsTheInvariant := by
  intro s t h ht
  obtain ⟨u, hu, hinv⟩ := step_of_inv h
  exact Host.Outcome.next.inj (hu.symm.trans ht) ▸ hinv

/-- A run of any number of steps does not stop. -/
theorem safeFor_of_inv (k : Nat) {s : State} (h : Inv s) : SafeFor k s := by
  induction k generalizing s with
  | zero => exact ⟨s, rfl⟩
  | succ k ih =>
    obtain ⟨t, ht, hinv⟩ := step_of_inv h
    rw [SafeFor, run_succ, ht]
    exact ih hinv

/-- Settles O60: by induction on the number of steps. -/
theorem noOperationStops : Obligations.NoOperationStops := fun _ h =>
  ⟨let ⟨t, ht, _⟩ := step_of_inv h; ⟨t, ht⟩, fun k => safeFor_of_inv k h⟩

/-- Settles O59: a walk stands within its payload, where it ends and where it stops. -/
theorem cursorStaysInThePayload : Obligations.CursorStaysInThePayload := by
  intro s t h ht
  obtain ⟨p, hp⟩ := exists_payload h
  have hlen : p.length = s.pl.plLen.toNat := (memSpan_eq_some_iff.mp hp).1
  cases hw : haltWalk p with
  | ok w =>
    have hlay : Layout p 35 0 w := by simpa [hw] using haltWalk_reaches p
    obtain rfl := Host.Outcome.next.inj ((exec_tdDecode_of_ok hp hw).symm.trans ht)
    have hle : w.cur % 2 ^ 11 ≤ s.pl.plLen.toNat := (Nat.mod_le _ _).trans (hlen ▸ hlay.cur_le)
    simpa [decoded] using hle
  | error e =>
    have hstop : Stopped p e := by simpa [hw] using haltWalk_reaches p
    obtain ⟨-, -, hcur, -⟩ := stoppedAt_registers hp hstop
    obtain rfl := Host.Outcome.next.inj ((exec_tdDecode_of_error hp hw).symm.trans ht)
    exact hcur.trans_le (hlen ▸ hstop.layout.cur_le)

/-! ## The faults -/

/-- An answered result is the last of the log. -/
theorem result_eq_of_answer {s t : State} {r r' : Result} (hhost : t.host = s.host)
    (h : (answer r t).host.results = s.host.results ++ [r']) : r = r' := by
  simpa [hhost] using h

/-- A fault in the log was recorded by its unit. -/
theorem recorded_of_fault {i : Instr} (hi : i.format = .cw) {s t : State} {f : BlockFault} (h : Inv s)
    (ht : exec i s = .next t) (hf : t.host.results = s.host.results ++ [.fault f]) : Recorded i s t f := by
  cases endsWell_of_inv hi h with
  | quiet u r heq hno _ hhost =>
    obtain rfl := Host.Outcome.next.inj (heq.symm.trans ht)
    exact absurd (result_eq_of_answer hhost hf) (hno f)
  | fault u f' heq hrecorded _ hhost =>
    obtain rfl := Host.Outcome.next.inj (heq.symm.trans ht)
    obtain rfl : f' = f := Result.fault.inj (result_eq_of_answer hhost hf)
    cases f' <;> exact hrecorded

/-- Settles O50. -/
theorem faultsAreRecordedByTheirUnit : Obligations.FaultsAreRecordedByTheirUnit := by
  intro i s t f hi h ht hf
  have hrecorded := recorded_of_fault hi h ht hf
  cases f <;> exact hrecorded

/-- Settles O51: the bad frame leaves an empty payload, and the walk over it stops at its first field. -/
theorem decodeAfterABadFrameFaults : Obligations.DecodeAfterABadFrameFaults := by
  intro i s t info hi h ht hf
  have hcw : i.format = .cw := by rcases hi with rfl | ⟨b, rfl⟩ <;> rfl
  obtain ⟨-, -, -, -, hempty, -, -, -, hte⟩ := recorded_of_fault hcw h ht hf
  have hp : memSpan t.pl.plbuf 0 t.pl.plLen.toNat = some [] := by rw [hempty]; rfl
  have hw : haltWalk [] = .error ⟨0, 0, ⟨0, 0, 0, []⟩⟩ := rfl
  exact ⟨hte, _, exec_tdDecode_of_error hp hw, rfl, rfl, rfl, rfl, rfl⟩

end Sys2Proof.Proofs.Invariant
